-- ==== Sys2Proof/Word.lean ====
section
/-! DEFINITION. The words of the frequency mapper pipeline: the event word and the widths of its
registers (spec 00_scope R7, 10_state R22, R23, 30_encoding R60, R62). -/

namespace Sys2Proof

/-- One event word on the event bus, taken whole (R60, R48). -/
abbrev EventWord := BitVec 16

/-- The VALUE field of a SAMPLE word, bits 13:0 (R62). -/
abbrev SampleField := BitVec 14

/-- The contents of SMOOTHED_NOTE: NOTE_BITS = 8 bits (R22). -/
abbrev NoteReg := BitVec 8

/-- A reload value, the contents of PERIOD: RELOAD_BITS = 16 bits (R23). -/
abbrev Reload := BitVec 16

end Sys2Proof
end

