-- ==== Sys2Proof/Config.lean ====
section
/-! DEFINITION. The configuration parameters of 00_scope R7, and the constants the spec leaves open.
The check `Config.Valid`, the reference values and what reset takes from a configuration stand in
Sys2Proof/Machine/Setup.lean. -/

namespace Sys2Proof

/-- The free parameters of R7, each of the type its row gives. RELOAD_BITS = 16 and NOTE_BITS = 8 are
fixed and show as the widths of `Reload` and `NoteReg`; SAMPLE_MAX and TICK_HZ are derived.
A configuration is constant (R6): no step of the machine changes one. -/
structure Config where
  /-- SAMPLE_BITS -/
  sampleBits : Int
  /-- SAMPLE_RANGE_SIZE, the divisor of step 1 -/
  sampleRangeSize : Int
  /-- SCALE_BOTTOM, in semitones -/
  scaleBottom : Int
  /-- SCALE_TOP, in semitones -/
  scaleTop : Int
  /-- REF_NOTE, also SMOOTHED_NOTE's reset value -/
  refNote : Int
  /-- REF_FREQUENCY in Hz, a rational number -/
  refFrequency : Rat
  /-- SEMITONES_PER_OCTAVE -/
  semitonesPerOctave : Int
  /-- CLK_HZ -/
  clkHz : Int
  /-- PRESCALER -/
  prescaler : Int
  /-- GATE_ACTIVE_LEVEL: the raw level that means active, `true` for 1 -/
  gateActiveLevel : Bool
  deriving DecidableEq, Repr

/-- FREE VALUE (log 11): what SMOOTHED_NOTE holds after a reset whose REF_NOTE does not fit 8 bits.
The spec states no value there; the configuration is then invalid and the block halted (R152 clause 5). -/
opaque Config.unfitRefNote : Int → NoteReg

/-- FREE VALUE (log 13): IDLE_LEVEL, the oscillator's output level while disabled (R7, D21: OPEN). -/
opaque Config.idleLevel : Bool

/-- FREE VALUE (log 13): TIMER_TOGGLE_TICKS(r), the timer ticks between output toggles for a PERIOD
value r (R7, R162, D22: OPEN, oscillator-side). -/
opaque Config.timerToggleTicks : Reload → Nat

end Sys2Proof
end

