-- ==== Sys2Proof/Machine/Setup.lean ====
section
/-! DEFINITION. What is fixed before reset is released: the reference configuration and the derived
parameters (00_scope R7), the configuration check (60_exceptions R152), and the two reset values that
depend on the configuration (10_state R22, R24). -/

namespace Sys2Proof

/-- The reference configuration: the column "reference value" of R7. -/
def Config.reference : Config where
  sampleBits := 10
  sampleRangeSize := 1024
  scaleBottom := 36
  scaleTop := 60
  refNote := 57
  refFrequency := 440
  semitonesPerOctave := 12
  clkHz := 16000000
  prescaler := 8
  gateActiveLevel := false

/-- 2^SAMPLE_BITS: how many samples there are. -/
def Config.sampleCount (c : Config) : Nat := 2 ^ c.sampleBits.toNat

/-- SAMPLE_MAX = 2^SAMPLE_BITS − 1 (R7). -/
def Config.sampleMax (c : Config) : Nat := c.sampleCount - 1

/-- TICK_HZ = CLK_HZ / PRESCALER (R7). -/
def Config.tickHz (c : Config) : Rat := (c.clkHz : Rat) / (c.prescaler : Rat)

/-- `CfgValid(cfg)` as the machine computes it: the eight clauses of R152, in its order. -/
def Config.valid (c : Config) : Bool :=
  decide (
    (1 ≤ c.sampleBits ∧ c.sampleBits ≤ 14) ∧
    1 ≤ c.sampleRangeSize ∧
    (c.sampleMax : Int) ≤ c.sampleRangeSize ∧
    (0 ≤ c.scaleBottom ∧ c.scaleBottom ≤ c.scaleTop ∧ c.scaleTop ≤ 255) ∧
    (0 ≤ c.refNote ∧ c.refNote ≤ 255) ∧
    0 < c.refFrequency ∧
    1 ≤ c.semitonesPerOctave ∧
    (1 ≤ c.clkHz ∧ 1 ≤ c.prescaler))

/-- `CfgValid(cfg)` as a proposition. -/
abbrev Config.Valid (c : Config) : Prop := c.valid = true

/-- SMOOTHED_NOTE's reset value REF_NOTE (R22, R34); a free value where REF_NOTE does not fit the
register (log 11). -/
def Config.resetNote (c : Config) : NoteReg :=
  if 0 ≤ c.refNote ∧ c.refNote ≤ 255 then BitVec.ofInt 8 c.refNote else Config.unfitRefNote c.refNote

/-- ENABLE's reset value: 1, and 0 under an invalid configuration (R24, R170). -/
def Config.resetEnable (c : Config) : Bool := c.valid

end Sys2Proof
end

