-- ==== Sys2Proof/Machine/Mapper.lean ====
section
/-! DEFINITION. The pure function `mapSample` (40_frequency_mapper R80 to R93), computed over integers
alone: the hysteresis filter by R84, the reload value by R91. The same values as exact rational and real
formulas stand in Sys2Proof/PitchLaw.lean, and statements compare the two (log 12). -/

namespace Sys2Proof.Machine

open Sys2Proof

/-- `N` of R84: the average times `D`. -/
def filterNum (c : Config) (s previous : Int) : Int :=
  2 * s * (c.scaleTop - c.scaleBottom) + 2 * c.scaleBottom * c.sampleRangeSize + previous * c.sampleRangeSize

/-- `D` of R84. -/
def filterDen (c : Config) : Int := 3 * c.sampleRangeSize

/-- `smoothed` of R84: floor((2N + D) / (2D)). -/
def smoothedOf (c : Config) (s previous : Int) : Int :=
  (2 * filterNum c s previous + filterDen c) / (2 * filterDen c)

/-- `m` of R90: 2·(smoothed − REF_NOTE) + 1. -/
def pitchOffset (c : Config) (n : Int) : Int := 2 * (n - c.refNote) + 1

/-- `K` of R90: 2·SEMITONES_PER_OCTAVE. -/
def pitchRoot (c : Config) : Nat := (2 * c.semitonesPerOctave).toNat

/-- The numerator of `A` of R90, CLK_HZ / (2·PRESCALER·REF_FREQUENCY). -/
def tickNum (c : Config) : Nat := (c.clkHz * c.refFrequency.den).toNat

/-- The denominator of `A` of R90. -/
def tickDen (c : Config) : Nat := (2 * c.prescaler * c.refFrequency.num).toNat

/-- `gt(y)` of R91 at y = t/2: whether note n's half-period x exceeds t/2 timer ticks. With A = a/d it
compares A^K with y^K·2^m over the common denominator d^K·2^K. -/
def exceedsHalves (c : Config) (n : Int) (t : Nat) : Bool :=
  let k := pitchRoot c
  let m := pitchOffset c n
  if 0 ≤ m then decide ((t * tickDen c) ^ k * 2 ^ m.toNat < (2 * tickNum c) ^ k)
  else decide ((t * tickDen c) ^ k < (2 * tickNum c) ^ k * 2 ^ (-m).toNat)

/-- `gt(r − 1/2)` of R91, for r ≥ 1: the unclamped reload value of note n is at least r. -/
def rawAtLeast (c : Config) (n : Int) (r : Nat) : Bool := exceedsHalves c n (2 * r - 1)

/-- The largest r' with r ≤ r' < r + 2^bits that `rawAtLeast` holds of, or r (R91's binary search, from
the highest bit down). -/
def searchRaw (c : Config) (n : Int) : Nat → Nat → Nat
  | 0, r => r
  | bits + 1, r => if rawAtLeast c n (r + 2 ^ bits) then searchRaw c n bits (r + 2 ^ bits) else searchRaw c n bits r

/-- A clamped reload value with its two indicators (R92, R93). -/
structure Converted where
  reload : Reload
  clampHi : Bool
  clampLo : Bool
  deriving DecidableEq, Repr

/-- `reloadOf` of R91. -/
def reloadOf (c : Config) (n : Int) : Converted :=
  if rawAtLeast c n 65536 then ⟨65535#16, true, false⟩
  else if !rawAtLeast c n 1 then ⟨1#16, false, true⟩
  else ⟨BitVec.ofNat 16 (searchRaw c n 16 0), false, false⟩

/-- The four results of `mapSample` (R80). -/
structure Mapped where
  smoothed : NoteReg
  reload : Reload
  clampHi : Bool
  clampLo : Bool
  deriving DecidableEq, Repr

/-- The filter's result as SMOOTHED_NOTE holds it; under a valid configuration it fits (R85). -/
def smoothNote (c : Config) (v : SampleField) (previous : NoteReg) : NoteReg :=
  BitVec.ofInt 8 (smoothedOf c v.toNat previous.toNat)

/-- `mapSample` of R80. -/
def mapSample (c : Config) (v : SampleField) (previous : NoteReg) : Mapped :=
  let n := smoothNote c v previous
  let r := reloadOf c n.toNat
  ⟨n, r.reload, r.clampHi, r.clampLo⟩

end Sys2Proof.Machine
end

