-- ==== Sys2Proof/Syntax.lean ====
section
/-! DEFINITION. The instructions: the event words of 30_encoding, one constructor per row of
spec/opcode_table.json. -/

namespace Sys2Proof

/-- One decoded event word. R66 gives four outcomes; the reserved one carries its word, so that no bit
of an encoding is dropped (log 8). -/
inductive Instr where
  /-- IDLE: no event in this slot (R112). -/
  | idle
  /-- SAMPLE v: one completed conversion with value v (R113). -/
  | sample (v : SampleField)
  /-- GATE a: one observation of the gate, `true` for active (R115). -/
  | gate (active : Bool)
  /-- A reserved word (R67), illegal in the core (R154). -/
  | reserved (w : EventWord)
  deriving DecidableEq, Repr

end Sys2Proof
end

