-- ==== Sys2Proof/WellFormed.lean ====
section
/-! DEFINITION. Which instruction terms an event word can stand for: SAMPLE's value fits SAMPLE_BITS
(30_encoding R62), and a reserved term carries one of R67's four kinds of word. -/

namespace Sys2Proof

/-- KIND, bits 15:14 of an event word (R61). -/
def kindField (w : EventWord) : BitVec 2 := w.extractLsb' 14 2

/-- Bits 13:0 of an event word: SAMPLE's VALUE (R62), and zero in an IDLE word (R64). -/
def payloadField (w : EventWord) : SampleField := w.extractLsb' 0 14

/-- Bits 13:1 of an event word, zero in a GATE word (R63). -/
def gateZeroField (w : EventWord) : BitVec 13 := w.extractLsb' 1 13

/-- A sample that SAMPLE_DATA and a SAMPLE word can carry: it is in [0, SAMPLE_MAX] (R41, R62). -/
abbrev Config.Fits (c : Config) (v : SampleField) : Prop := v.toNat < c.sampleCount

/-- The four kinds of reserved word, in the order R67 lists them. -/
abbrev Config.ReservedWord (c : Config) (w : EventWord) : Prop :=
  kindField w = 3 ∨
  (kindField w = 0 ∧ payloadField w ≠ 0) ∨
  (kindField w = 1 ∧ ¬ c.Fits (payloadField w)) ∨
  (kindField w = 2 ∧ gateZeroField w ≠ 0)

/-- The check that an instruction term stands for some event word under configuration c. -/
def Instr.wellFormed (c : Config) : Instr → Bool
  | .idle => true
  | .sample v => decide (c.Fits v)
  | .gate _ => true
  | .reserved w => decide (c.ReservedWord w)

/-- The instruction terms that some event word decodes to under configuration c. -/
abbrev Instr.WellFormed (c : Config) (i : Instr) : Prop := i.wellFormed c = true

end Sys2Proof
end

