-- ==== Sys2Proof/Decode.lean ====
section
/-! DEFINITION. Decoding and encoding event words (30_encoding R60 to R67). Decoding is total: every
16-bit word decodes to exactly one instruction, and a reserved word decodes by name to `reserved`. -/

namespace Sys2Proof

/-- `decode` of R66. -/
def decodeWord (c : Config) (w : EventWord) : Instr :=
  if kindField w = 0 then
    if payloadField w = 0 then .idle else .reserved w
  else if kindField w = 1 then
    if c.Fits (payloadField w) then .sample (payloadField w) else .reserved w
  else if kindField w = 2 then
    if gateZeroField w = 0 then .gate (w.getLsbD 0) else .reserved w
  else .reserved w

/-- The SAMPLE word of a value: `0x4000 OR v` (R62, R70). -/
def sampleWord (v : SampleField) : EventWord := 0x4000#16 ||| v.setWidth 16

/-- The GATE word of an observation: `0x8000 OR a` (R63, R70). -/
def gateWord (active : Bool) : EventWord := 0x8000#16 ||| (BitVec.ofBool active).setWidth 16

/-- The word of an instruction, from the formats of R62 to R64. -/
def encode : Instr → EventWord
  | .idle => 0x0000#16
  | .sample v => sampleWord v
  | .gate a => gateWord a
  | .reserved w => w

/-- A row of R66's match and mask table. -/
structure FormRow where
  /-- the bits a word of this form shows under `mask` -/
  pattern : EventWord
  /-- the bits that decide -/
  mask : EventWord
  deriving DecidableEq, Repr

/-- `(w AND mask) = match` (R66). -/
abbrev FormRow.Matches (r : FormRow) (w : EventWord) : Prop := w &&& r.mask = r.pattern

/-- The row of IDLE in R66's table. -/
def idleRow : FormRow := ⟨0x0000#16, 0xFFFF#16⟩

/-- The row of SAMPLE in R66's table, with its general mask. -/
def sampleRow (c : Config) : FormRow :=
  ⟨0x4000#16, 0xC000#16 ||| (0x3FFF#16 &&& ~~~(BitVec.ofNat 16 (c.sampleCount - 1)))⟩

/-- The row of GATE in R66's table. -/
def gateRow : FormRow := ⟨0x8000#16, 0xFFFE#16⟩

/-- The instruction an event word numbered as spec/opcode_table.json numbers its bits decodes to, in the
reference configuration (the table's mask of SAMPLE is that configuration's). An event word is 16 bits:
more bits than that, or a number that does not fit them, is no event word (log 20). -/
def decodeTableWord (nbits w : Nat) : Option Instr :=
  if nbits ≤ 16 ∧ w < 2 ^ 16 then some (decodeWord Config.reference (BitVec.ofNat 16 w)) else none

end Sys2Proof
end

