-- ==== Sys2Proof/Machine/State.lean ====
section
/-! DEFINITION. The state of the frequency mapper pipeline (10_state R20 to R36), why a step can stop,
and the state after reset (10_state R34, 70_reset_and_hazards R170). The block has no memory (20_memory
R45), no program counter (R21) and no register file (R20). -/

namespace Sys2Proof.Machine

open Sys2Proof

/-- One oscillator write, an entry of the output trace (R31). Each is also one strobe, PERIOD_WR or
ENABLE_WR (20_memory R43). -/
inductive OscWrite where
  /-- `SetPeriod(v)` -/
  | setPeriod (v : Reload)
  /-- `SetEnabled(b)` -/
  | setEnabled (b : Bool)
  deriving DecidableEq, Repr

/-- One atomic step of one of R130's agents. -/
inductive AgentStep where
  /-- SampleSource: one SAMPLE_READY strobe with SAMPLE_DATA = v (R131). -/
  | arrive (v : SampleField)
  /-- GateInput: GATE_LINE takes the level l, `true` for 1 (R136). -/
  | line (l : Bool)
  /-- the block: one multiplexer iteration (R134). -/
  | iterate
  /-- the host: one core step on the test port (R138). -/
  | inject (w : EventWord)
  /-- the host: the RESET port (R170). -/
  | reset
  deriving DecidableEq, Repr

/-- The three sticky fault bits of R27. They are state, not stops of the model: taking one is a next
state in which the block is HALTED (R156). -/
inductive StickyFault where
  | cfgErr
  | overrun
  | rsvdEvt
  deriving DecidableEq, Repr

/-- Why a read has no value. Both are safe: the machine stops where the spec says there is no value. -/
inductive Fault where
  /-- PERIOD read while PERIOD_VALID = 0 (R23, 93 item I1). Raised by `State.readPeriod` alone, which is
  a read of the port: no step raises it. -/
  | periodHasNoValue
  /-- SAMPLE_LATCH read while it holds no value (R29, 93 item I2). Raised by an iteration with
  SAMPLE_PENDING = 1 and an empty latch, a state no run reaches. -/
  | sampleLatchHasNoValue
  deriving DecidableEq, Repr

/-- Why a step has no meaning. All are safe: the machine stops on what the spec says cannot be. -/
inductive Refusal where
  /-- An instruction without a meaning. No arm of `exec` answers it. -/
  | notModelled (mnemonic : String)
  /-- SAMPLE in a state whose configuration is invalid and whose CFG_ERR is 0 (R8: a model may refuse an
  invalid configuration). No run reaches such a state. Raised by `execSample`. -/
  | invalidConfiguration
  /-- SAMPLE with a value above SAMPLE_MAX, which no word decodes to (R62, R113). Raised by `execSample`
  on an ill-formed term alone: no step raises it. -/
  | sampleOutOfRange
  /-- A sample above SAMPLE_MAX on SAMPLE_DATA, which the port is too narrow to carry (R41, R141).
  Raised by `arrive`. -/
  | sampleDataTooWide
  deriving DecidableEq, Repr

/-- Everything the spec gives the machine (R22 to R31), with the three things a step also depends on:
the configuration, the gate line and the agent steps still to come. One-bit registers are `Bool`s. -/
structure State where
  /-- the configuration (R6), constant: no step writes it (log 1) -/
  cfg : Config
  /-- SMOOTHED_NOTE (R22) -/
  smoothedNote : NoteReg
  /-- PERIOD (R23): `none` where it holds no value -/
  period : Option Reload
  /-- PERIOD_VALID (R23) -/
  periodValid : Bool
  /-- ENABLE (R24) -/
  enable : Bool
  /-- CLAMP_HI (R25) -/
  clampHi : Bool
  /-- CLAMP_LO (R26) -/
  clampLo : Bool
  /-- CFG_ERR (R27) -/
  cfgErr : Bool
  /-- OVERRUN (R27) -/
  overrun : Bool
  /-- RSVD_EVT (R27) -/
  rsvdEvt : Bool
  /-- SAMPLE_PENDING (R29) -/
  samplePending : Bool
  /-- SAMPLE_LATCH (R29): `none` where it holds no value -/
  sampleLatch : Option SampleField
  /-- the output trace (R31), oldest first -/
  trace : List OscWrite
  /-- GATE_LINE, the environment's raw gate level (R32, R136), `true` for 1 (log 5) -/
  gateLine : Bool
  /-- the agent steps still to come, oldest first (R130; log 3) -/
  schedule : List AgentStep
  deriving DecidableEq, Repr

/-- The machine right after a reset under configuration c (R34, R170), with the environment's gate line
at l and the agent steps sch still to come, neither of which a reset touches (95 program P6; log 21). -/
def State.resetUnder (c : Config) (l : Bool) (sch : List AgentStep) : State where
  cfg := c
  smoothedNote := c.resetNote
  period := none
  periodValid := false
  enable := c.resetEnable
  clampHi := false
  clampLo := false
  cfgErr := !c.valid
  overrun := false
  rsvdEvt := false
  samplePending := false
  sampleLatch := none
  trace := []
  gateLine := l
  schedule := sch

/-- The machine right after reset with the reference configuration, GATE_LINE high (DESIGN CHOICE,
log 5) and no agent step placed (DESIGN CHOICE, log 4). -/
def State.reset : State := State.resetUnder Config.reference true []

end Sys2Proof.Machine
end

