-- ==== Sys2Proof/Machine/Flags.lean ====
section
/-! DEFINITION. The flags: HALTED (10_state R28), the STATUS word (R30), a fault's code (60_exceptions
R151) and the two clamp flags (R25, R26). -/

namespace Sys2Proof.Machine

open Sys2Proof

/-- HALTED, derived from the fault bits (R28). -/
def State.halted (s : State) : Bool := s.cfgErr || s.overrun || s.rsvdEvt

/-- A fault's code: its bit position in STATUS (R151). -/
def faultCode : StickyFault → Nat
  | .cfgErr => 0
  | .overrun => 1
  | .rsvdEvt => 2

/-- Whether a fault's bit is set (R27). -/
def State.faultBit (s : State) : StickyFault → Bool
  | .cfgErr => s.cfgErr
  | .overrun => s.overrun
  | .rsvdEvt => s.rsvdEvt

/-- One bit of STATUS at its position. -/
def statusBit (b : Bool) (i : Nat) : BitVec 16 := (BitVec.ofBool b).setWidth 16 <<< i

/-- STATUS: live copies of the state bits at R30's positions; bits 15:6 read as 0. -/
def State.status (s : State) : BitVec 16 :=
  statusBit s.cfgErr 0 ||| statusBit s.overrun 1 ||| statusBit s.rsvdEvt 2 |||
  statusBit s.periodValid 3 ||| statusBit s.clampHi 4 ||| statusBit s.clampLo 5

/-- CLAMP_HI and CLAMP_LO take the indicators of the sample just mapped (R93, R113). -/
def State.setClamps (s : State) (hi lo : Bool) : State := { s with clampHi := hi, clampLo := lo }

end Sys2Proof.Machine
end

