-- ==== Sys2Proof/Machine/Operands.lean ====
section
/-! DEFINITION. The operands of the events, and where they come from: the gate line's normalisation and
the words the multiplexer forms (42_event_mux R134, R135). -/

namespace Sys2Proof.Machine

open Sys2Proof

/-- `normalise(l)` of R135: active exactly when the line is at GATE_ACTIVE_LEVEL. -/
def normalise (c : Config) (l : Bool) : Bool := l == c.gateActiveLevel

/-- The SAMPLE word an iteration issues for the latched sample: `0x4000 OR v` (R134). -/
def serviceWord (v : SampleField) : EventWord := sampleWord v

/-- The GATE word an iteration issues: `0x8000 OR normalise(GATE_LINE)` (R134). -/
def pollWord (s : State) : EventWord := gateWord (normalise s.cfg s.gateLine)

end Sys2Proof.Machine
end

