-- ==== Sys2Proof/Machine/Ops.lean ====
section
/-! DEFINITION. The named operations over the registers, and taking a fault (60_exceptions R156). There
is no return from a fault (R160): only `resetBlock` clears a fault bit. -/

namespace Sys2Proof.Machine

open Sys2Proof

/-- Set a sticky fault bit (R156): nothing else changes, and the block is HALTED from then on. There is
no vector, handler, saved state or mode change. -/
def raiseFault (f : StickyFault) (s : State) : State :=
  match f with
  | .cfgErr => { s with cfgErr := true }
  | .overrun => { s with overrun := true }
  | .rsvdEvt => { s with rsvdEvt := true }

/-- `emit` (R10, R31): append one oscillator write to the output trace. -/
def emit (o : OscWrite) (s : State) : State := { s with trace := s.trace ++ [o] }

/-- Write PERIOD, which then holds a value (R23). -/
def writePeriod (r : Reload) (s : State) : State := { s with period := some r, periodValid := true }

/-- Write SMOOTHED_NOTE (R22). -/
def writeNote (n : NoteReg) (s : State) : State := { s with smoothedNote := n }

/-- Write ENABLE (R24). -/
def writeEnable (b : Bool) (s : State) : State := { s with enable := b }

/-- Latch a sample: the disarmed state (R131). -/
def latchSample (v : SampleField) (s : State) : State := { s with sampleLatch := some v, samplePending := true }

/-- Empty the latch, which re-arms the source (R134). -/
def clearLatch (s : State) : State := { s with sampleLatch := none, samplePending := false }

/-- GATE_LINE takes a level (R136). -/
def writeLine (l : Bool) (s : State) : State := { s with gateLine := l }

/-- The reset procedure (R170): every state element takes its reset value under the machine's own
configuration; the gate line and the agent steps still to come belong to the environment and stay. -/
def resetBlock (s : State) : State := State.resetUnder s.cfg s.gateLine s.schedule

/-- Read PERIOD: no value, hence a fault, while PERIOD_VALID = 0 (R23 "a model faults on such a read rather
than returning a number"; 93_implementation_defined I1). No step and no instruction reads PERIOD; a reader
of the port does, and reading has no side effect (R48). -/
def State.readPeriod (s : State) : Except Fault Reload :=
  match s.periodValid, s.period with
  | true, some r => .ok r
  | _, _ => .error .periodHasNoValue

/-- The writes of one SAMPLE event, in one atomic step (R113, R52). -/
def acceptSample (r : Mapped) (s : State) : State :=
  emit (.setPeriod r.reload) ((writePeriod r.reload (writeNote r.smoothed s)).setClamps r.clampHi r.clampLo)

/-- The writes of one GATE event (R115). -/
def acceptGate (a : Bool) (s : State) : State := emit (.setEnabled a) (writeEnable a s)

end Sys2Proof.Machine
end

