-- ==== Sys2Proof/Machine/Events.lean ====
section
/-! DEFINITION. The meaning of each event word in the core (41_events R110 to R116, 60_exceptions R154).
Every event first tests HALTED and, while halted, does nothing (R111; log 7). -/

namespace Sys2Proof.Machine

open Sys2Proof

/-- A halted core consumes the event and changes nothing (R111); otherwise the event has its effect. -/
def unlessHalted (s : State) (k : Host.Outcome State Fault Refusal) : Host.Outcome State Fault Refusal :=
  if s.halted then .next s else k

/-- IDLE: no event in this slot; nothing is written (R112). -/
def execIdle (s : State) : Host.Outcome State Fault Refusal :=
  unlessHalted s (.next s)

/-- SAMPLE v: map the sample with SMOOTHED_NOTE and write the results (R113). It does not read ENABLE
(R114). The two refusals answer terms and states outside R80's domain, which no run reaches (logs 9, 10). -/
def execSample (v : SampleField) (s : State) : Host.Outcome State Fault Refusal :=
  unlessHalted s
    (if ¬ s.cfg.Valid then .refused .invalidConfiguration
     else if ¬ s.cfg.Fits v then .refused .sampleOutOfRange
     else .next (acceptSample (mapSample s.cfg v s.smoothedNote) s))

/-- GATE a: write ENABLE, on every GATE event, and leave the pitch state alone (R115, R116). -/
def execGate (a : Bool) (s : State) : Host.Outcome State Fault Refusal :=
  unlessHalted s (.next (acceptGate a s))

/-- A reserved word: raise RSVD_EVT, with no other effect; the word itself is not kept (R154, R151). -/
def execReserved (_w : EventWord) (s : State) : Host.Outcome State Fault Refusal :=
  unlessHalted s (.next (raiseFault .rsvdEvt s))

end Sys2Proof.Machine
end

