-- ==== Sys2Proof/Machine/Dispatch.lean ====
section
/-! DEFINITION. The dispatch of R110: one arm per constructor of `Instr`. -/

namespace Sys2Proof.Machine

open Sys2Proof

def exec (i : Instr) (s : State) : Host.Outcome State Fault Refusal :=
  match i with
  | .idle => Sys2Proof.Machine.execIdle s
  | .sample v => Sys2Proof.Machine.execSample v s
  | .gate a => Sys2Proof.Machine.execGate a s
  | .reserved w => Sys2Proof.Machine.execReserved w s

end Sys2Proof.Machine
end

