-- ==== Sys2Proof/Machine/Mux.lean ====
section
/-! DEFINITION. The event multiplexer and the other agents' steps (42_event_mux R130 to R138), over the
core step of 41_events R110. -/

namespace Sys2Proof.Machine

open Sys2Proof

/-- One core step: decode the word on the event bus and run it, atomically (R110). -/
def coreStep (w : EventWord) (s : State) : Host.Outcome State Fault Refusal :=
  exec (decodeWord s.cfg w) s

/-- Run one part of an atomic step after another; a stop of the first is the stop of both. -/
def andThen (o : Host.Outcome State Fault Refusal) (k : State → Host.Outcome State Fault Refusal) :
    Host.Outcome State Fault Refusal :=
  match o with
  | .next s => k s
  | .fault f => .fault f
  | .refused r => .refused r

/-- `arrive(v)` of R131: while halted nothing (R133); while a sample is pending OVERRUN, which keeps the
first sample (R132); otherwise the sample is latched. A value that SAMPLE_DATA is too narrow for is
refused (R41, R141; log 10). -/
def arrive (v : SampleField) (s : State) : Host.Outcome State Fault Refusal :=
  if s.halted then .next s
  else if s.samplePending then .next (raiseFault .overrun s)
  else if s.cfg.Fits v then .next (latchSample v s)
  else .refused .sampleDataTooWide

/-- The first half of R134: service the pending sample, if there is one. -/
def servicePending (s : State) : Host.Outcome State Fault Refusal :=
  if s.samplePending then
    match s.sampleLatch with
    | some v => coreStep (serviceWord v) (clearLatch s)
    | none => .fault .sampleLatchHasNoValue
  else .next s

/-- The second half of R134: poll the gate. -/
def pollGate (s : State) : Host.Outcome State Fault Refusal := coreStep (pollWord s) s

/-- `iteration()` of R134, one atomic step of the block. -/
def iteration (s : State) : Host.Outcome State Fault Refusal :=
  if s.halted then .next s else andThen (servicePending s) pollGate

/-- `inject(w)` of R138: one core step on the test port. -/
def inject (w : EventWord) (s : State) : Host.Outcome State Fault Refusal := coreStep w s

/-- The effect of one agent's step (R130). -/
def agentStep (a : AgentStep) (s : State) : Host.Outcome State Fault Refusal :=
  match a with
  | .arrive v => arrive v s
  | .line l => .next (writeLine l s)
  | .iterate => iteration s
  | .inject w => inject w s
  | .reset => .next (resetBlock s)

/-- The next agent step of the schedule takes place and leaves it; while no agent takes a step the block
is idle and every piece of state survives (R130, R166; log 3). -/
def nextAgentStep (s : State) : Host.Outcome State Fault Refusal :=
  match s.schedule with
  | [] => .next s
  | a :: rest => agentStep a { s with schedule := rest }

/-- Put an event word on the test port as the next agent step (R138; log 4). -/
def placeWord (s : State) (w : EventWord) : State := { s with schedule := .inject w :: s.schedule }

end Sys2Proof.Machine
end

