-- ==== Sys2Proof/Machine/Step.lean ====
section
/-! DEFINITION. One step of the machine, and how an event word is placed so that the next step runs it. -/

namespace Sys2Proof.Machine

open Sys2Proof

/-- One step: the next agent step of the schedule (42_event_mux R130). -/
def step (s : State) : Host.Outcome State Fault Refusal := nextAgentStep s

/-- s with the event word w as the next agent step, an injection on the test port (R138; log 4). Bits
above nbits are zero in w itself; an event word is 16 bits. -/
def State.withFetchWord (s : State) (_nbits w : Nat) : State := placeWord s (BitVec.ofNat 16 w)

end Sys2Proof.Machine
end

