-- ==== Sys2Proof/Machine/Ports.lean ====
section
/-! DEFINITION. The output ports (20_memory R43), which are views of the state, and what they ask of the
oscillator outside the block (60_exceptions R162, 70_reset_and_hazards R175). -/

namespace Sys2Proof.Machine

open Sys2Proof

/-- The level ports of R43. The PERIOD port has no meaning while PERIOD_VALID = 0. -/
structure OutputPorts where
  period : Option Reload
  periodValid : Bool
  enable : Bool
  status : BitVec 16
  deriving DecidableEq, Repr

/-- What the level ports show in a state (R43, R48: reading them has no side effect). -/
def State.ports (s : State) : OutputPorts := ⟨s.period, s.periodValid, s.enable, s.status⟩

/-- The strobes of one step, oldest first: a PERIOD_WR for each `setPeriod` and an ENABLE_WR for each
`setEnabled` the step appended to the trace (R43; log 17). -/
def strobes (before after : State) : List OscWrite := after.trace.drop before.trace.length

/-- What the output ports ask of the oscillator. The waveform itself is outside the block (R5, R43). -/
inductive OscDrive where
  /-- disabled: hold the idle output level IDLE_LEVEL (D21) -/
  | hold (level : Bool)
  /-- enabled with a period: toggle the output every `ticks` timer ticks (R162) -/
  | toggle (ticks : Nat)
  /-- enabled while PERIOD holds no value: the block does not say what is emitted (R175) -/
  | unstated
  deriving DecidableEq, Repr

/-- The oscillator's instruction in a state: IDLE_LEVEL and TIMER_TOGGLE_TICKS are free values (log 13). -/
def State.drive (s : State) : OscDrive :=
  if s.enable then
    match s.readPeriod with
    | .ok r => .toggle (Config.timerToggleTicks r)
    | .error _ => .unstated
  else .hold Config.idleLevel

/-- The tone frequency heard for a PERIOD value r, TICK_HZ / (2·TIMER_TOGGLE_TICKS(r)) (R162). -/
def toneHz (c : Config) (r : Reload) : Rat := c.tickHz / (2 * (Config.timerToggleTicks r : Rat))

end Sys2Proof.Machine
end

