-- ==== Sys2Proof/Machine/Transcribe.lean ====
section
/-! DEFINITION. The text form of event words and multiplexer inputs (30_encoding R70, R71), and the
transcriber that turns a program into agent steps or refuses it, naming the line. Text is a list of
characters. -/

namespace Sys2Proof.Machine

open Sys2Proof

/-- One line of R70's text form, before its operand is checked. -/
inductive AsmLine where
  | idle
  | sample (v : Nat)
  | gate (a : Nat)
  | word (w : Nat)
  | arrive (v : Nat)
  | line (l : Nat)
  | iter
  | reset
  deriving DecidableEq, Repr

/-- Why a line is refused. The first three are R70's; the rest are the model's (log 22). -/
inductive AsmError where
  /-- a SAMPLE operand above SAMPLE_MAX -/
  | sampleAboveMax
  /-- a GATE operand other than 0 or 1 -/
  | gateNotBit
  /-- an unknown mnemonic -/
  | unknownMnemonic
  /-- an operand that is missing, is no number, or stands where none may -/
  | badOperand
  /-- a `.word` operand of more than 16 bits -/
  | wordTooWide
  /-- an `@arrive` operand above SAMPLE_MAX, which SAMPLE_DATA cannot carry (R41) -/
  | arriveAboveMax
  /-- an `@line` operand other than 0 or 1 -/
  | lineNotBit
  deriving DecidableEq, Repr

/-- The value of a digit in a base, if it is one. -/
def digitValue (base : Nat) (ch : Char) : Option Nat :=
  let n := ch.toNat
  let v := if 48 ≤ n ∧ n ≤ 57 then n - 48
           else if 65 ≤ n ∧ n ≤ 70 then n - 55
           else if 97 ≤ n ∧ n ≤ 102 then n - 87
           else base
  if v < base then some v else none

/-- Digits, most significant first, onto a value read so far. -/
def readDigits (base : Nat) : List Char → Nat → Option Nat
  | [], acc => some acc
  | ch :: rest, acc =>
    match digitValue base ch with
    | some d => readDigits base rest (acc * base + d)
    | none => none

/-- A decimal or `0x` hexadecimal integer (R70, of SAMPLE's operand). DESIGN CHOICE, safe: leading zeros and
hexadecimal digits of either case are accepted (log 22). -/
def readNumber (text : List Char) : Option Nat :=
  match text with
  | [] => none
  | '0' :: 'x' :: rest => if rest = [] then none else readDigits 16 rest 0
  | ch :: rest => readDigits 10 (ch :: rest) 0

/-- A blank inside a line. -/
def isBlank (ch : Char) : Bool := ch == ' ' || ch == '\t' || ch == '\r'

/-- A line without its comment (text after `;`, R70) and without blanks at its two ends. -/
def stripLine (text : List Char) : List Char :=
  (((text.takeWhile (· != ';')).dropWhile isBlank).reverse.dropWhile isBlank).reverse

/-- A line's mnemonic, and its operand's text if one space and more text follow (R70). -/
def splitLine (text : List Char) : List Char × Option (List Char) :=
  match text.dropWhile (· != ' ') with
  | [] => (text, none)
  | _ :: operand => (text.takeWhile (· != ' '), some operand)

/-- A form with a number as its operand. DESIGN CHOICE, safe: the operands of GATE, .word, @arrive and @line
are read in the form that R70 gives for SAMPLE's alone, decimal or `0x` hexadecimal (log 22). -/
def withNumber (operand : Option (List Char)) (form : Nat → AsmLine) : Except AsmError AsmLine :=
  match operand with
  | none => .error .badOperand
  | some text =>
    match readNumber text with
    | some n => .ok (form n)
    | none => .error .badOperand

/-- A form with no operand. -/
def withNothing (operand : Option (List Char)) (form : AsmLine) : Except AsmError AsmLine :=
  match operand with
  | none => .ok form
  | some _ => .error .badOperand

/-- Read one stripped line that is not empty: the mnemonics of R70, upper case. -/
def parseLine (text : List Char) : Except AsmError AsmLine :=
  let (name, operand) := splitLine text
  if name = ['I', 'D', 'L', 'E'] then withNothing operand .idle
  else if name = ['S', 'A', 'M', 'P', 'L', 'E'] then withNumber operand .sample
  else if name = ['G', 'A', 'T', 'E'] then withNumber operand .gate
  else if name = ['.', 'w', 'o', 'r', 'd'] then withNumber operand .word
  else if name = ['@', 'a', 'r', 'r', 'i', 'v', 'e'] then withNumber operand .arrive
  else if name = ['@', 'l', 'i', 'n', 'e'] then withNumber operand .line
  else if name = ['@', 'i', 't', 'e', 'r'] then withNothing operand .iter
  else if name = ['@', 'r', 'e', 's', 'e', 't'] then withNothing operand .reset
  else .error .unknownMnemonic

/-- The agent step of a line: an event word is driven on the test port (R44, R138), and a
multiplexer-level input is its agent's own step (R70's table). DESIGN CHOICE, unsafe for a claim about this
text alone: under an invalid configuration with SAMPLE_BITS above 14 a SAMPLE or @arrive operand that is at
most SAMPLE_MAX but has more than 14 bits is cut to its low 14 (logs 19 and 22). -/
def assemble (c : Config) : AsmLine → Except AsmError AgentStep
  | .idle => .ok (.inject (encode .idle))
  | .sample v => if v ≤ c.sampleMax then .ok (.inject (sampleWord (BitVec.ofNat 14 v))) else .error .sampleAboveMax
  | .gate a => if a ≤ 1 then .ok (.inject (gateWord (a == 1))) else .error .gateNotBit
  | .word w => if w < 2 ^ 16 then .ok (.inject (BitVec.ofNat 16 w)) else .error .wordTooWide
  | .arrive v => if v ≤ c.sampleMax then .ok (.arrive (BitVec.ofNat 14 v)) else .error .arriveAboveMax
  | .line l => if l ≤ 1 then .ok (.line (l == 1)) else .error .lineNotBit
  | .iter => .ok .iterate
  | .reset => .ok .reset

/-- The agent steps of a program, one event per line in time order; an empty line is no event. A refusal
names the line, the first being line n. -/
def transcribeFrom (c : Config) : Nat → List (List Char) → Except (Nat × AsmError) (List AgentStep)
  | _, [] => .ok []
  | n, text :: rest =>
    let body := stripLine text
    if body = [] then transcribeFrom c (n + 1) rest
    else
      match parseLine body with
      | .error e => .error (n, e)
      | .ok a =>
        match assemble c a with
        | .error e => .error (n, e)
        | .ok x =>
          match transcribeFrom c (n + 1) rest with
          | .error e => .error e
          | .ok xs => .ok (x :: xs)

/-- The transcriber of R70; lines count from 1. -/
def transcribe (c : Config) (lines : List (List Char)) : Except (Nat × AsmError) (List AgentStep) :=
  transcribeFrom c 1 lines

end Sys2Proof.Machine
end

