-- ==== Sys2Proof/PitchLaw.lean ====
section
/-! DEFINITION. The pitch law as 40_frequency_mapper writes it, in exact rational and real numbers (R81 to
R89, R92, 00_scope R9). No step computes with these: the machine's integer functions stand in
Sys2Proof/Machine/Mapper.lean, and statements say that the two agree (R84, R91). -/

namespace Sys2Proof.Pitch

open Sys2Proof

/-- `quantize(s)` of R81: not rounded. -/
def quantize (c : Config) (s : Nat) : ℚ :=
  s * (((c.scaleTop : ℚ) - c.scaleBottom) / c.sampleRangeSize) + c.scaleBottom

/-- `avg` of R82: the new note twice and the previous one once. -/
def average (c : Config) (s : Nat) (previous : Nat) : ℚ := (2 * quantize c s + previous) / 3

/-- `roundHalfUp(q) = floor(q + 1/2)` of R9. -/
def roundHalfUp (q : ℚ) : ℤ := ⌊q + 1 / 2⌋

/-- `smoothed` of R83. -/
def smoothed (c : Config) (s previous : Nat) : ℤ := roundHalfUp (average c s previous)

/-- `offset` of R86, with the half-semitone bias (conflict C1). -/
def offset (c : Config) (n : ℤ) : ℚ := n - ((c.refNote : ℚ) - 1 / 2)

/-- `frequency` of R87, in Hz. -/
noncomputable def frequency (c : Config) (n : ℤ) : ℝ :=
  (c.refFrequency : ℝ) * (2 : ℝ) ^ ((offset c n / c.semitonesPerOctave : ℚ) : ℝ)

/-- `x` of R88: the half-period in timer ticks. -/
noncomputable def halfPeriodTicks (c : Config) (n : ℤ) : ℝ :=
  1 / frequency c n / 2 / ((c.prescaler : ℝ) / (c.clkHz : ℝ))

/-- `raw` of R89: x rounded to the nearest integer. -/
noncomputable def raw (c : Config) (n : ℤ) : ℤ := ⌊halfPeriodTicks c n + 1 / 2⌋

/-- `reload` of R92: raw clamped to [1, 65535]. -/
noncomputable def reload (c : Config) (n : ℤ) : ℤ := max 1 (min (raw c n) 65535)

end Sys2Proof.Pitch
end

