-- ==== Sys2Proof/Safety.lean ====
section
/-! DEFINITION. The invariant of the machine, and what the surroundings must do for a run to stay clear of
faults (42_event_mux R141, 60_exceptions R156). -/

namespace Sys2Proof.Machine

open Sys2Proof

/-- The last value the output trace set PERIOD to. -/
def lastPeriod (t : List OscWrite) : Option Reload :=
  t.foldl (fun acc o => match o with | .setPeriod r => some r | .setEnabled _ => acc) none

/-- The last value the output trace set ENABLE to. -/
def lastEnable (t : List OscWrite) : Option Bool :=
  t.foldl (fun acc o => match o with | .setPeriod _ => acc | .setEnabled b => some b) none

/-- What holds of every state a run reaches. -/
structure State.Inv (s : State) : Prop where
  /-- CFG_ERR says that the configuration is invalid (R152) -/
  cfgErr_iff : s.cfgErr = true ↔ ¬ s.cfg.Valid
  /-- at most one fault bit is set (R157) -/
  one_fault : ∀ f g : StickyFault, s.faultBit f = true → s.faultBit g = true → f = g
  /-- PERIOD holds a value exactly while PERIOD_VALID = 1 (R23) -/
  period_iff : s.period.isSome = s.periodValid
  /-- SAMPLE_LATCH holds a value exactly while SAMPLE_PENDING = 1 (R29) -/
  latch_iff : s.sampleLatch.isSome = s.samplePending
  /-- the latched sample has SAMPLE_BITS bits (R29, R41) -/
  latch_fits : ∀ v, s.sampleLatch = some v → s.cfg.Fits v
  /-- after an overrun the first sample is still pending (R132) -/
  overrun_pending : s.overrun = true → s.samplePending = true
  /-- a block that refused to start has done nothing and does not enable the oscillator (R152) -/
  refused_start : s.cfgErr = true → s.enable = false ∧ s.periodValid = false ∧ s.samplePending = false ∧ s.trace = []
  /-- SMOOTHED_NOTE stays between the scale and REF_NOTE (R22, R85) -/
  note_range : s.cfg.Valid →
    min s.cfg.scaleBottom s.cfg.refNote ≤ s.smoothedNote.toNat ∧
    (s.smoothedNote.toNat : Int) ≤ max s.cfg.scaleTop s.cfg.refNote
  /-- before the first SAMPLE event the pitch state is as reset left it (R34, R175) -/
  no_sample_yet : s.periodValid = false →
    s.smoothedNote = s.cfg.resetNote ∧ s.clampHi = false ∧ s.clampLo = false
  /-- SMOOTHED_NOTE, PERIOD and the clamp flags are of one SAMPLE event (R52, R179) -/
  same_sample : ∀ r, s.period = some r → reloadOf s.cfg s.smoothedNote.toNat = ⟨r, s.clampHi, s.clampLo⟩
  /-- PERIOD is the last value the oscillator was given (R23, R31) -/
  last_period : s.period = lastPeriod s.trace
  /-- ENABLE is the last value the oscillator was given, else its reset value (R24, R31) -/
  last_enable : s.enable = (lastEnable s.trace).getD s.cfg.resetEnable

/-- The duties of R141 over the agent steps to come: no sample while one is pending (the first argument),
samples that fit SAMPLE_DATA, and no injected word. -/
def dutiesKept (c : Config) : Bool → List AgentStep → Bool
  | _, [] => true
  | pending, .arrive v :: rest => !pending && decide (c.Fits v) && dutiesKept c true rest
  | pending, .line _ :: rest => dutiesKept c pending rest
  | _, .iterate :: rest => dutiesKept c false rest
  | _, .inject _ :: _ => false
  | _, .reset :: rest => dutiesKept c false rest

/-- A state of a run that the spec makes promises about: no fault bit is set (R156). -/
abbrev State.Safe (s : State) : Prop := s.halted = false

end Sys2Proof.Machine
end

