-- ==== Sys2Proof/Certificates/Slice0/Obligations.lean ====
section
/-! DEFINITION. The statements about the frequency mapper pipeline, from the numbered rules of spec/.
`core.run k s` is k steps. A state with an agent step at the head of its schedule is written
`s.schedule = a :: rest`; what remains after that step is `rest`. -/

open Sys2Proof Sys2Proof.Machine

/-! ## Encoding -/

/-- Decoding an encoded well-formed instruction gives it back, under every configuration (R62 to R67). -/
def Obligations.DecodeInvertsEncode : Prop :=
  ∀ (c : Config) (i : Instr), i.WellFormed c → decodeWord c (encode i) = i

/-- Every word is the encoding of the instruction it decodes to: no bit of a word is dropped (R66). -/
def Obligations.EncodeInvertsDecode : Prop :=
  ∀ (c : Config) (w : EventWord), encode (decodeWord c w) = w

/-- Every word decodes to a well-formed instruction (R66, R67). -/
def Obligations.DecodeYieldsWellFormed : Prop :=
  ∀ (c : Config) (w : EventWord), (decodeWord c w).WellFormed c

/-- The valid words of each format, by their values (R62 to R65): IDLE is 0x0000, SAMPLE v is 0x4000 + v
for v below 2^SAMPLE_BITS, GATE a is 0x8000 + a. -/
def Obligations.DecodeByWordValue : Prop :=
  ∀ (c : Config) (w : EventWord),
    (decodeWord c w = .idle ↔ w.toNat = 0) ∧
    (∀ v : SampleField, decodeWord c w = .sample v ↔
      w.toNat = 0x4000 + v.toNat ∧ v.toNat < 2 ^ c.sampleBits.toNat) ∧
    (∀ a : Bool, decodeWord c w = .gate a ↔ w.toNat = 0x8000 + (if a then 1 else 0))

/-- Decoding is R66's match and mask table: a word matches a form exactly when it decodes to that form's
event, and a word that matches none of the three is reserved. -/
def Obligations.DecodeIsTheMatchMaskTable : Prop :=
  ∀ (c : Config) (w : EventWord),
    (idleRow.Matches w ↔ decodeWord c w = .idle) ∧
    ((sampleRow c).Matches w ↔ decodeWord c w = .sample (payloadField w)) ∧
    (gateRow.Matches w ↔ decodeWord c w = .gate (w.getLsbD 0)) ∧
    (¬ idleRow.Matches w ∧ ¬ (sampleRow c).Matches w ∧ ¬ gateRow.Matches w ↔ decodeWord c w = .reserved w)

/-- R67: the four kinds of reserved word, by their values, and what the core does when it receives one:
RSVD_EVT is raised and nothing else changes. -/
def Obligations.ReservedWordsRaiseRsvdEvt : Prop :=
  ∀ (s : State) (w : EventWord), s.cfg.Valid →
    let illegal := 0xC000 ≤ w.toNat ∨ (1 ≤ w.toNat ∧ w.toNat ≤ 0x3FFF) ∨
      (0x4000 + 2 ^ s.cfg.sampleBits.toNat ≤ w.toNat ∧ w.toNat ≤ 0x7FFF) ∨
      (0x8002 ≤ w.toNat ∧ w.toNat ≤ 0xBFFF)
    (decodeWord s.cfg w = .reserved w ↔ illegal) ∧
    (s.halted = false → illegal → coreStep w s = .next { s with rsvdEvt := true })

/-- Words of 95_test_vectors §5, in the reference configuration. -/
def Obligations.SpecWordsDecode : Prop :=
  decodeWord Config.reference 0x0000#16 = .idle ∧
  decodeWord Config.reference 0x3FFF#16 = .reserved 0x3FFF#16 ∧
  decodeWord Config.reference 0x4020#16 = .sample 32#14 ∧
  decodeWord Config.reference 0x43FF#16 = .sample 1023#14 ∧
  decodeWord Config.reference 0x4400#16 = .reserved 0x4400#16 ∧
  decodeWord Config.reference 0x8000#16 = .gate false ∧
  decodeWord Config.reference 0x8001#16 = .gate true ∧
  decodeWord Config.reference 0xC000#16 = .reserved 0xC000#16

/-! ## Steps -/

/-- A step runs the decoded instruction: with an event word on the test port, `step` is `exec` of what
the word decodes to, at the state that remains (R110, R138). -/
def Obligations.StepRunsTheDecodedWord : Prop :=
  (∀ (s : State) (w : EventWord) (rest : List AgentStep), s.schedule = .inject w :: rest →
    step s = exec (decodeWord s.cfg w) { s with schedule := rest }) ∧
  (∀ (s : State) (i : Instr) (rest : List AgentStep), i.WellFormed s.cfg → s.schedule = .inject (encode i) :: rest →
    step s = exec i { s with schedule := rest }) ∧
  (∀ (s : State) (nbits w : Nat), step (s.withFetchWord nbits w) = exec (decodeWord s.cfg (BitVec.ofNat 16 w)) s)

/-- While no agent takes a step, every piece of state survives (the model's choice, log 3; 60_exceptions
"Between iterations the block is idle, and every piece of state survives the idle time"). -/
def Obligations.EmptyScheduleIsIdle : Prop :=
  ∀ s : State, s.schedule = [] → step s = .next s

/-- R111 and R133: while HALTED the block consumes event words and arrivals, and iterates, without any
change. -/
def Obligations.HaltedBlockIgnoresEvents : Prop :=
  ∀ (s : State), s.halted = true →
    (∀ i : Instr, exec i s = .next s) ∧
    (∀ (rest : List AgentStep) (a : AgentStep), s.schedule = a :: rest →
      ((∃ w, a = .inject w) ∨ (∃ v, a = .arrive v) ∨ a = .iterate) →
      step s = .next { s with schedule := rest })

/-! ## IDLE -/

/-- R112: IDLE is the word 0x0000 alone, it changes nothing, and the multiplexer never emits it. -/
def Obligations.IdleChangesNothing : Prop :=
  (∀ (c : Config) (w : EventWord), decodeWord c w = .idle ↔ w = 0x0000#16) ∧
  (∀ s : State, exec .idle s = .next s) ∧
  (∀ (s : State) (v : SampleField), decodeWord s.cfg (serviceWord v) ≠ .idle ∧ decodeWord s.cfg (pollWord s) ≠ .idle)

/-! ## SAMPLE -/

/-- R113 with R80 to R93: in a running block a SAMPLE event takes SMOOTHED_NOTE to the exact rounded
average, PERIOD to the exact clamped reload value of that note, PERIOD_VALID to 1 and the clamp flags to
their indicators, appends one SetPeriod with its strobe, and changes nothing else. -/
def Obligations.SampleWritesTheExactPitchLaw : Prop :=
  ∀ (s : State) (v : SampleField), s.halted = false → s.cfg.Valid → s.cfg.Fits v →
    decodeWord s.cfg (0x4000#16 ||| v.setWidth 16) = .sample v ∧
    ∃ (n : NoteReg) (r : Reload) (t : State),
      (n.toNat : ℤ) = Pitch.smoothed s.cfg v.toNat s.smoothedNote.toNat ∧
      (r.toNat : ℤ) = Pitch.reload s.cfg n.toNat ∧
      exec (.sample v) s = .next t ∧
      t = { s with
        smoothedNote := n
        period := some r
        periodValid := true
        clampHi := decide (65535 < Pitch.raw s.cfg n.toNat)
        clampLo := decide (Pitch.raw s.cfg n.toNat = 0)
        trace := s.trace ++ [.setPeriod r] } ∧
      strobes s t = [.setPeriod r]

/-- R91: `gt(t/2)` is x > t/2, and the integer procedure gives the clamped reload value and the clamp
indicators of R88, R89, R92 and R93, at every note. -/
def Obligations.ReloadIsTheRoundedHalfPeriod : Prop :=
  ∀ (c : Config) (n : ℤ), c.Valid →
    (∀ t : Nat, exceedsHalves c n t = true ↔ (t : ℝ) / 2 < Pitch.halfPeriodTicks c n) ∧
    ((reloadOf c n).reload.toNat : ℤ) = Pitch.reload c n ∧
    (reloadOf c n).clampHi = decide (65535 < Pitch.raw c n) ∧
    (reloadOf c n).clampLo = decide (Pitch.raw c n = 0)

/-- R90: x is A·2^(−m/K), irrational, and so never an exact half-integer; and R89's raw is the unique
nearest integer to x. -/
def Obligations.HalfPeriodIsNeverATie : Prop :=
  ∀ (c : Config) (n : ℤ), c.Valid →
    Pitch.halfPeriodTicks c n =
      (tickNum c : ℝ) / (tickDen c : ℝ) * (2 : ℝ) ^ (-(pitchOffset c n : ℝ) / (pitchRoot c : ℝ)) ∧
    Irrational (Pitch.halfPeriodTicks c n) ∧
    (∀ k : ℤ, Pitch.halfPeriodTicks c n ≠ k + 1 / 2) ∧
    ∀ k : ℤ, k ≠ Pitch.raw c n → |Pitch.halfPeriodTicks c n - Pitch.raw c n| < |Pitch.halfPeriodTicks c n - k|

/-- R84: N / D is the average exactly, and the integer form gives the rounded average for every sample
and every previous note; in the reference configuration D is 3072 and 2N + D stays below 2^20. -/
def Obligations.FilterIsTheRoundedAverage : Prop :=
  (∀ (c : Config), 1 ≤ c.sampleRangeSize → ∀ s previous : Nat,
    (filterNum c s previous : ℚ) / filterDen c = Pitch.average c s previous ∧
    smoothedOf c s previous = Pitch.smoothed c s previous) ∧
  filterDen Config.reference = 3072 ∧
  (∀ s previous : Nat, s ≤ 1023 → previous ≤ 255 →
    2 * filterNum Config.reference s previous + filterDen Config.reference < 2 ^ 20)

/-- R85: the filter's output lies between bounds of its two inputs, it fits SMOOTHED_NOTE's 8 bits, and
from a note between the scale and REF_NOTE it gives one. -/
def Obligations.FilterStaysInRange : Prop :=
  ∀ (c : Config) (v : SampleField) (p : NoteReg), c.Valid → c.Fits v →
    (∀ lo hi : ℤ, lo ≤ p.toNat → (p.toNat : ℤ) ≤ hi → (lo : ℚ) ≤ Pitch.quantize c v.toNat →
      Pitch.quantize c v.toNat ≤ hi → lo ≤ smoothedOf c v.toNat p.toNat ∧ smoothedOf c v.toNat p.toNat ≤ hi) ∧
    ((smoothNote c v p).toNat : ℤ) = smoothedOf c v.toNat p.toNat ∧
    (min c.scaleBottom c.refNote ≤ p.toNat → (p.toNat : ℤ) ≤ max c.scaleTop c.refNote →
      min c.scaleBottom c.refNote ≤ (smoothNote c v p).toNat ∧
      ((smoothNote c v p).toNat : ℤ) ≤ max c.scaleTop c.refNote)

/-- R96 and R97: the quantized note does not fall as the sample rises; the filter does not fall as either
argument rises, nor over two runs fed with comparable samples; and once SMOOTHED_NOTE is at most 3/4 above
the current note it does not fall while the samples do not. The last clause is R97's example of a fall. -/
def Obligations.FilterIsMonotone : Prop :=
  (∀ c : Config, c.Valid →
    (∀ s1 s2 : Nat, s1 ≤ s2 → Pitch.quantize c s1 ≤ Pitch.quantize c s2) ∧
    (∀ s1 s2 p1 p2 : Nat, s1 ≤ s2 → p1 ≤ p2 → smoothedOf c s1 p1 ≤ smoothedOf c s2 p2) ∧
    (∀ (l1 l2 : List SampleField) (p : NoteReg),
      List.Forall₂ (fun a b : SampleField => c.Fits a ∧ c.Fits b ∧ a.toNat ≤ b.toNat) l1 l2 →
      (l1.foldl (fun q v => smoothNote c v q) p).toNat ≤ (l2.foldl (fun q v => smoothNote c v q) p).toNat) ∧
    (∀ s s' p : Nat, s ≤ s' → (p : ℚ) ≤ Pitch.quantize c s + 3 / 4 →
      (p : ℤ) ≤ smoothedOf c s p ∧ (smoothedOf c s p : ℚ) ≤ Pitch.quantize c s' + 3 / 4)) ∧
  smoothNote Config.reference 0#14 57#8 = 43#8 ∧ smoothNote Config.reference 1#14 43#8 = 38#8

/-- R98: SMOOTHED_NOTE holds exactly while the note lies in the half-open window of width 3/2 around it,
and every note has one or two fixed points. The last two clauses are R98's example. -/
def Obligations.HysteresisBandHoldsTheNote : Prop :=
  (∀ (c : Config) (v : SampleField), c.Valid → c.Fits v →
    (∀ p : NoteReg, smoothNote c v p = p ↔
      (p.toNat : ℚ) - 3 / 4 ≤ Pitch.quantize c v.toNat ∧ Pitch.quantize c v.toNat < p.toNat + 3 / 4) ∧
    (∃ p : NoteReg, smoothNote c v p = p) ∧
    (∀ p q r : NoteReg, smoothNote c v p = p → smoothNote c v q = q → smoothNote c v r = r → p = q ∨ q = r ∨ p = r)) ∧
  (∀ v : SampleField, v.toNat ≤ 31 → smoothNote Config.reference v 36#8 = 36#8) ∧
  smoothNote Config.reference 32#14 36#8 = 37#8

/-- R99, the filter alone: under a steady sample the sequence of notes is monotone. -/
def Obligations.SteadySampleMovesMonotonically : Prop :=
  ∀ (c : Config) (v : SampleField) (p : NoteReg), c.Valid → c.Fits v →
    let noteAt := fun j : Nat => ((fun q => smoothNote c v q)^[j] p).toNat
    (∀ j, noteAt j ≤ noteAt (j + 1)) ∨ (∀ j, noteAt (j + 1) ≤ noteAt j)

/-- R99: fed the same sample k times, k at least 1 and at least the distance from SMOOTHED_NOTE to the
sample's note, a running block has settled: one more event leaves SMOOTHED_NOTE and PERIOD as they are. -/
def Obligations.SteadySampleSettles : Prop :=
  ∀ (s : State) (v : SampleField) (k : Nat) (rest : List AgentStep), s.halted = false → s.cfg.Valid → s.cfg.Fits v →
    1 ≤ k → |(s.smoothedNote.toNat : ℚ) - Pitch.quantize s.cfg v.toNat| ≤ k →
    s.schedule = List.replicate (k + 1) (.inject (sampleWord v)) ++ rest →
    ∃ t u, core.run k s = .next t ∧ step t = .next u ∧ u.schedule = rest ∧
      u.smoothedNote = t.smoothedNote ∧ u.period = t.period ∧ t.periodValid = true

/-- R100 but for its last clause: frequency rises strictly with the note, x falls strictly, and the
reload value does not rise. -/
def Obligations.ReloadFallsAsTheNoteRises : Prop :=
  ∀ c : Config, c.Valid →
    StrictMono (Pitch.frequency c) ∧ StrictAnti (Pitch.halfPeriodTicks c) ∧
    ∀ n1 n2 : ℤ, n1 ≤ n2 → (reloadOf c n2).reload.toNat ≤ (reloadOf c n1).reload.toNat

/-- R100's last clause, that the reload value falls strictly wherever no clamp applies. It is expected to
fail: by the table of 95_test_vectors §4.1 notes 143 and 144 both have PERIOD 15, with no clamp (log 18). -/
def Obligations.ReloadStrictWhereUnclamped : Prop :=
  ∀ (c : Config) (n1 n2 : NoteReg), c.Valid → n1.toNat < n2.toNat →
    (reloadOf c n1.toNat).clampHi = false → (reloadOf c n1.toNat).clampLo = false →
    (reloadOf c n2.toNat).clampHi = false → (reloadOf c n2.toNat).clampLo = false →
    (reloadOf c n2.toNat).reload.toNat < (reloadOf c n1.toNat).reload.toNat

/-- R101 and R102: an octave doubles the frequency and halves the reload value to within 3/4, where
neither value is clamped; and the frequency at REF_NOTE is REF_FREQUENCY·2^(1/(2·SEMITONES_PER_OCTAVE)). -/
def Obligations.OctaveHalvesTheReload : Prop :=
  ∀ c : Config, c.Valid →
    (∀ n : ℤ, Pitch.frequency c (n + c.semitonesPerOctave) = 2 * Pitch.frequency c n) ∧
    Pitch.frequency c c.refNote = (c.refFrequency : ℝ) * (2 : ℝ) ^ (1 / (2 * (c.semitonesPerOctave : ℝ))) ∧
    (∀ n : ℤ, (reloadOf c n).clampHi = false → (reloadOf c (n + c.semitonesPerOctave)).clampLo = false →
      |((reloadOf c (n + c.semitonesPerOctave)).reload.toNat : ℚ) - (reloadOf c n).reload.toNat / 2| ≤ 3 / 4)

/-- R92, R93 and R155, whatever the configuration: CLAMP_HI is set exactly when the unclamped value is at
least 65536, and then the reload value is 65535; CLAMP_LO exactly when it is not at least 1, and then the
reload value is 1; they are never both set. Otherwise the reload value is the unclamped value, the largest
r that `rawAtLeast` holds of, and is never wrapped. -/
def Obligations.ClampNeverWraps : Prop :=
  ∀ (c : Config) (n : ℤ),
    let r := reloadOf c n
    1 ≤ r.reload.toNat ∧
    (r.clampHi = true ↔ rawAtLeast c n 65536 = true) ∧ (r.clampHi = true → r.reload = 65535#16) ∧
    (r.clampLo = true ↔ rawAtLeast c n 1 = false) ∧ (r.clampLo = true → r.reload = 1#16) ∧
    ¬ (r.clampHi = true ∧ r.clampLo = true) ∧
    (r.clampHi = false → r.clampLo = false → ∀ k : Nat, 1 ≤ k → (rawAtLeast c n k = true ↔ k ≤ r.reload.toNat))

/-- R114: SAMPLE neither reads nor writes ENABLE. -/
def Obligations.SampleIgnoresEnable : Prop :=
  ∀ (s t : State) (v : SampleField) (b : Bool), exec (.sample v) s = .next t →
    t.enable = s.enable ∧ exec (.sample v) { s with enable := b } = .next { t with enable := b }

/-- Where SAMPLE has no meaning in a running block: an invalid configuration, or a value that no SAMPLE
word carries (the model's stops, logs 9 and 10; no run reaches either). -/
def Obligations.SampleStopsOutsideItsDomain : Prop :=
  ∀ (s : State) (v : SampleField), s.halted = false →
    (¬ s.cfg.Valid → exec (.sample v) s = .refused .invalidConfiguration) ∧
    (s.cfg.Valid → ¬ s.cfg.Fits v → exec (.sample v) s = .refused .sampleOutOfRange)

/-! ## GATE and reserved words -/

/-- R115: in a running block GATE writes ENABLE and appends one SetEnabled with its strobe, on every GATE
event, and changes nothing else; its words are 0x8000 and 0x8001, and every other word of KIND 10 is
reserved. -/
def Obligations.GateWritesEnable : Prop :=
  (∀ c : Config, decodeWord c 0x8000#16 = .gate false ∧ decodeWord c 0x8001#16 = .gate true) ∧
  (∀ (c : Config) (w : EventWord), kindField w = 2 → w ≠ 0x8000#16 → w ≠ 0x8001#16 → decodeWord c w = .reserved w) ∧
  (∀ (s : State) (a : Bool), s.halted = false →
    ∃ t, exec (.gate a) s = .next t ∧ t = { s with enable := a, trace := s.trace ++ [.setEnabled a] } ∧
      strobes s t = [.setEnabled a])

/-- R116: GATE neither reads nor writes SMOOTHED_NOTE and PERIOD, and after GATE 0 then GATE 1 the
oscillator is enabled again with the pitch state it had. -/
def Obligations.PitchSurvivesMuting : Prop :=
  (∀ (s t : State) (a : Bool) (n : NoteReg) (p : Option Reload), exec (.gate a) s = .next t →
    t.smoothedNote = s.smoothedNote ∧ t.period = s.period ∧
    exec (.gate a) { s with smoothedNote := n, period := p } = .next { t with smoothedNote := n, period := p }) ∧
  (∀ (s : State) (rest : List AgentStep), s.halted = false →
    s.schedule = .inject 0x8000#16 :: .inject 0x8001#16 :: rest →
    ∃ t, core.run 2 s = .next t ∧ t.enable = true ∧ t.smoothedNote = s.smoothedNote ∧ t.period = s.period ∧
      t.periodValid = s.periodValid ∧ t.clampHi = s.clampHi ∧ t.clampLo = s.clampLo)

/-- R154: in a running block a reserved word sets RSVD_EVT, which halts the block, and has no other
effect. -/
def Obligations.ReservedWordHasNoOtherEffect : Prop :=
  ∀ (s : State) (w : EventWord), s.halted = false →
    exec (.reserved w) s = .next { s with rsvdEvt := true } ∧ ({ s with rsvdEvt := true } : State).halted = true

/-! ## Event sequences and frames -/

/-- R117: SAMPLE and GATE commute on everything but the order of their two trace entries. -/
def Obligations.SampleAndGateCommute : Prop :=
  ∀ (s : State) (v : SampleField) (a : Bool), s.halted = false → s.cfg.Valid → s.cfg.Fits v →
    ∃ (t u : State) (r : Reload),
      andThen (exec (.sample v) s) (exec (.gate a)) = .next t ∧
      andThen (exec (.gate a) s) (exec (.sample v)) = .next u ∧
      ({ t with trace := [] } : State) = { u with trace := [] } ∧
      t.trace = s.trace ++ [.setPeriod r, .setEnabled a] ∧ u.trace = s.trace ++ [.setEnabled a, .setPeriod r]

/-- The columns IDLE, SAMPLE and GATE of R35's access matrix, and R154 for a reserved word: what each
event leaves unchanged. -/
def Obligations.EventsWriteOnlyTheirRegisters : Prop :=
  ∀ (i : Instr) (s t : State), exec i s = .next t →
    t.cfg = s.cfg ∧ t.cfgErr = s.cfgErr ∧ t.overrun = s.overrun ∧
    t.samplePending = s.samplePending ∧ t.sampleLatch = s.sampleLatch ∧
    t.gateLine = s.gateLine ∧ t.schedule = s.schedule ∧
    ((∀ v, i ≠ .sample v) → t.smoothedNote = s.smoothedNote ∧ t.period = s.period ∧
      t.periodValid = s.periodValid ∧ t.clampHi = s.clampHi ∧ t.clampLo = s.clampLo) ∧
    ((∀ a, i ≠ .gate a) → t.enable = s.enable) ∧
    ((∀ w, i ≠ .reserved w) → t.rsvdEvt = s.rsvdEvt) ∧
    ((∀ v, i ≠ .sample v) → (∀ a, i ≠ .gate a) → t.trace = s.trace)

/-- The multiplexer's columns of R35's access matrix, R136 and R138: what each agent's step leaves
unchanged. -/
def Obligations.AgentStepsWriteOnlyTheirState : Prop :=
  ∀ (a : AgentStep) (s t : State), agentStep a s = .next t →
    t.cfg = s.cfg ∧ t.schedule = s.schedule ∧
    ((∀ l, a ≠ .line l) → t.gateLine = s.gateLine) ∧
    (a ≠ .reset → t.cfgErr = s.cfgErr) ∧
    (a ≠ .reset → (∀ v, a ≠ .arrive v) → t.overrun = s.overrun) ∧
    ((∃ w, a = .inject w) → t.samplePending = s.samplePending ∧ t.sampleLatch = s.sampleLatch) ∧
    ((∃ v, a = .arrive v) →
      t = { s with overrun := t.overrun, samplePending := t.samplePending, sampleLatch := t.sampleLatch }) ∧
    (∀ l, a = .line l → t = { s with gateLine := l })

/-- R31 and R53: a step other than a reset appends to the output trace at most one SetPeriod and then at
most one SetEnabled. -/
def Obligations.TraceOnlyGrows : Prop :=
  ∀ (s t : State), step s = .next t → (∀ rest, s.schedule ≠ .reset :: rest) →
    t.trace = s.trace ∨ (∃ r, t.trace = s.trace ++ [.setPeriod r]) ∨ (∃ b, t.trace = s.trace ++ [.setEnabled b]) ∨
    (∃ r b, t.trace = s.trace ++ [.setPeriod r, .setEnabled b])

/-! ## The multiplexer -/

/-- R131 to R133: an arrival is latched; while one is pending it raises OVERRUN, and the first sample is
kept; while the block is halted it changes nothing. -/
def Obligations.ArrivalLatchesOrOverruns : Prop :=
  ∀ (s : State) (v : SampleField) (rest : List AgentStep), s.schedule = .arrive v :: rest → s.cfg.Fits v →
    (s.halted = true → step s = .next { s with schedule := rest }) ∧
    (s.halted = false → s.samplePending = true → step s = .next { s with overrun := true, schedule := rest }) ∧
    (s.halted = false → s.samplePending = false →
      step s = .next { s with sampleLatch := some v, samplePending := true, schedule := rest })

/-- A sample that SAMPLE_DATA is too narrow for is refused by a running block with nothing pending (the
model's stop, log 10; R141: it cannot be presented). -/
def Obligations.TooWideSampleIsRefused : Prop :=
  ∀ (s : State) (v : SampleField) (rest : List AgentStep), s.schedule = .arrive v :: rest → ¬ s.cfg.Fits v →
    s.halted = false → s.samplePending = false → step s = .refused .sampleDataTooWide

/-- R134 and R135: an iteration of a running block services the pending sample, if there is one, and then
polls the gate: the sample's writes land first, the latch is emptied, and ENABLE is 1 exactly when
GATE_LINE is at GATE_ACTIVE_LEVEL, which is low in the reference configuration. While the block is halted
an iteration does nothing. -/
def Obligations.IterationServicesThenPolls : Prop :=
  normalise Config.reference false = true ∧ normalise Config.reference true = false ∧
  ∀ (s : State), s.Inv →
    let g := decide (s.gateLine = s.cfg.gateActiveLevel)
    (s.halted = true → iteration s = .next s) ∧
    (s.halted = false → s.samplePending = false →
      iteration s = .next { s with enable := g, trace := s.trace ++ [.setEnabled g] }) ∧
    (∀ v, s.halted = false → s.samplePending = true → s.sampleLatch = some v →
      let r := mapSample s.cfg v s.smoothedNote
      iteration s = .next { s with
        smoothedNote := r.smoothed
        period := some r.reload
        periodValid := true
        clampHi := r.clampHi
        clampLo := r.clampLo
        samplePending := false
        sampleLatch := none
        enable := g
        trace := s.trace ++ [.setPeriod r.reload, .setEnabled g] })

/-- R139: after an iteration of a running block ENABLE is the normalised level of the line as read at that
iteration, and the block still runs. -/
def Obligations.EnableFollowsTheGateLine : Prop :=
  ∀ (s : State) (rest : List AgentStep), s.Inv → s.halted = false → s.schedule = .iterate :: rest →
    ∃ t, step s = .next t ∧ (t.enable = true ↔ s.gateLine = s.cfg.gateActiveLevel) ∧ t.halted = false

/-- R140: a latched sample stays latched through every step of the other agents but a reset, and the next
iteration of a running block services it as exactly one SAMPLE event; an iteration with nothing pending
makes none. -/
def Obligations.PendingSampleIsServedOnce : Prop :=
  (∀ (s t : State) (v : SampleField), s.Inv → s.sampleLatch = some v → step s = .next t →
    (∀ rest, s.schedule ≠ .iterate :: rest) → (∀ rest, s.schedule ≠ .reset :: rest) →
    t.samplePending = true ∧ t.sampleLatch = some v) ∧
  (∀ (s : State) (rest : List AgentStep), s.Inv → s.halted = false → s.schedule = .iterate :: rest →
    ∃ t b, step s = .next t ∧ t.samplePending = false ∧ t.sampleLatch = none ∧
      (∀ v, s.sampleLatch = some v → t.trace =
        s.trace ++ [.setPeriod (mapSample s.cfg v s.smoothedNote).reload, .setEnabled b]) ∧
      (s.sampleLatch = none → t.trace = s.trace ++ [.setEnabled b]))

/-- R137: the multiplexer emits only SAMPLE words in range and GATE words, and so RSVD_EVT arises only from
a reserved word on the test port. -/
def Obligations.MultiplexerEmitsOnlyValidWords : Prop :=
  ∀ s : State, s.Inv →
    (∀ v, s.sampleLatch = some v → decodeWord s.cfg (serviceWord v) = .sample v ∧ s.cfg.Fits v) ∧
    (∃ a, decodeWord s.cfg (pollWord s) = .gate a) ∧
    (∀ t, step s = .next t → s.rsvdEvt = false → t.rsvdEvt = true →
      ∃ w rest, s.schedule = .inject w :: rest ∧ decodeWord s.cfg w = .reserved w)

/-- R136: GATE_LINE is set by its own agent's step alone, and every agent's step but an iteration leaves
the line as it is and does not read it: no core event, arrival, injection or reset does. -/
def Obligations.OnlyIterationsReadTheGateLine : Prop :=
  (∀ (s : State) (l : Bool) (rest : List AgentStep), s.schedule = .line l :: rest →
    step s = .next { s with gateLine := l, schedule := rest }) ∧
  (∀ (s t : State) (a : AgentStep), agentStep a s = .next t → t.gateLine ≠ s.gateLine → ∃ l, a = .line l) ∧
  (∀ (s t : State) (l : Bool) (a : AgentStep), a ≠ .iterate → (∀ level, a ≠ .line level) →
    agentStep a s = .next t → agentStep a { s with gateLine := l } = .next { t with gateLine := l }) ∧
  (∀ (s t : State) (l : Bool) (i : Instr), exec i s = .next t →
    exec i { s with gateLine := l } = .next { t with gateLine := l })

/-! ## Faults, reset and configuration -/

/-- R30: STATUS shows each state bit at its position, bits 15:6 read as 0, and right after a reset it is 0,
or 1 under an invalid configuration. -/
def Obligations.StatusBitsAreLiveCopies : Prop :=
  (∀ s : State,
    s.status.getLsbD 0 = s.cfgErr ∧ s.status.getLsbD 1 = s.overrun ∧ s.status.getLsbD 2 = s.rsvdEvt ∧
    s.status.getLsbD 3 = s.periodValid ∧ s.status.getLsbD 4 = s.clampHi ∧ s.status.getLsbD 5 = s.clampLo ∧
    ∀ i, 6 ≤ i → s.status.getLsbD i = false) ∧
  (∀ (c : Config) (l : Bool) (sch : List AgentStep),
    (State.resetUnder c l sch).status = if c.Valid then 0x0000#16 else 0x0001#16)

/-- R23: a read of PERIOD gives its value exactly while PERIOD_VALID = 1, and faults before. -/
def Obligations.PeriodReadFaultsBeforeTheFirstSample : Prop :=
  ∀ s : State, s.Inv →
    (s.periodValid = false → s.readPeriod = .error .periodHasNoValue) ∧
    (s.periodValid = true → ∃ r, s.period = some r ∧ s.readPeriod = .ok r)

/-- R34 and R170: what reset leaves in every state element, from any state, under the machine's own
configuration. -/
def Obligations.ResetLeavesTheListedValues : Prop :=
  ∀ (s : State) (rest : List AgentStep), s.schedule = .reset :: rest →
    ∃ t, step s = .next t ∧
      (0 ≤ s.cfg.refNote → s.cfg.refNote ≤ 255 → (t.smoothedNote.toNat : ℤ) = s.cfg.refNote) ∧
      (t.enable = true ↔ s.cfg.Valid) ∧ (t.cfgErr = true ↔ ¬ s.cfg.Valid) ∧
      t.period = none ∧ t.periodValid = false ∧ t.clampHi = false ∧ t.clampLo = false ∧
      t.overrun = false ∧ t.rsvdEvt = false ∧ t.samplePending = false ∧ t.sampleLatch = none ∧ t.trace = []

/-- R172: only a reset clears a fault bit, and a reset with a valid configuration leaves none set. -/
def Obligations.OnlyResetClearsFaults : Prop :=
  (∀ (s t : State) (f : StickyFault), step s = .next t → s.faultBit f = true → t.faultBit f = false →
    ∃ rest, s.schedule = .reset :: rest) ∧
  (∀ (s : State) (rest : List AgentStep), s.cfg.Valid → s.schedule = .reset :: rest →
    ∃ t, step s = .next t ∧ ∀ f, t.faultBit f = false)

/-- R156 and R157: outside a reset a running block halts only by a second arrival, which sets OVERRUN, or
by a reserved word on the test port, which sets RSVD_EVT; that bit is all the step changes. -/
def Obligations.FaultsArePreciseAndSingle : Prop :=
  ∀ (s t : State), s.Inv → s.halted = false → step s = .next t → t.halted = true →
    (∃ v rest, s.schedule = .arrive v :: rest ∧ s.samplePending = true ∧
      t = { s with overrun := true, schedule := rest }) ∨
    (∃ w rest, s.schedule = .inject w :: rest ∧ decodeWord s.cfg w = .reserved w ∧
      t = { s with rsvdEvt := true, schedule := rest })

/-- R152: the eight clauses of CfgValid, and that with an invalid configuration the block never starts:
after any number of steps from reset CFG_ERR is 1, the block is HALTED, ENABLE is 0 and the oscillator has
been given nothing. -/
def Obligations.InvalidConfigurationNeverStarts : Prop :=
  ∀ c : Config,
    (c.Valid ↔
      (1 ≤ c.sampleBits ∧ c.sampleBits ≤ 14) ∧ 1 ≤ c.sampleRangeSize ∧
      (2 : ℤ) ^ c.sampleBits.toNat - 1 ≤ c.sampleRangeSize ∧
      (0 ≤ c.scaleBottom ∧ c.scaleBottom ≤ c.scaleTop ∧ c.scaleTop ≤ 255) ∧
      (0 ≤ c.refNote ∧ c.refNote ≤ 255) ∧ 0 < c.refFrequency ∧ 1 ≤ c.semitonesPerOctave ∧
      1 ≤ c.clkHz ∧ 1 ≤ c.prescaler) ∧
    (¬ c.Valid → ∀ (l : Bool) (sch : List AgentStep) (k : Nat),
      ∃ t, core.run k (State.resetUnder c l sch) = .next t ∧
        t.cfgErr = true ∧ t.halted = true ∧ t.enable = false ∧ t.trace = [])

/-- R6: the configuration is constant. -/
def Obligations.ConfigurationIsConstant : Prop :=
  ∀ s t : State, step s = .next t → t.cfg = s.cfg

/-- The invariant holds right after a reset, under every configuration, with any gate level and any agent
steps to come; `State.reset` is one of these states. -/
def Obligations.ResetMeetsTheInvariant : Prop :=
  ∀ (c : Config) (l : Bool) (sch : List AgentStep), (State.resetUnder c l sch).Inv

/-- Every step keeps the invariant, from every state that meets it. -/
def Obligations.StepKeepsTheInvariant : Prop :=
  ∀ s t : State, s.Inv → step s = .next t → t.Inv

/-- From a state that meets the invariant a step answers a next state, but for an arrival that SAMPLE_DATA
cannot carry. -/
def Obligations.InvariantStatesDoNotStop : Prop :=
  ∀ s : State, s.Inv → (∀ v rest, s.schedule = .arrive v :: rest → s.cfg.Fits v) → ∃ t, step s = .next t

/-- R141 with R156: while the surroundings keep their duties, a running block never halts and never stops,
however many steps it takes. -/
def Obligations.DutifulRunsNeverFault : Prop :=
  ∀ (s : State), s.Inv → s.halted = false → dutiesKept s.cfg s.samplePending s.schedule = true →
    ∀ k : Nat, ∃ t, core.run k s = .next t ∧ t.halted = false

/-! ## Ports and text -/

/-- R43, R162 and R175: what the output ports ask of the oscillator. The level and the tick count are free
values (log 13), and while PERIOD holds no value the block does not say. -/
def Obligations.PortsDriveTheOscillator : Prop :=
  ∀ s : State, s.Inv →
    (s.enable = false → s.drive = .hold Config.idleLevel) ∧
    (s.enable = true → s.periodValid = false → s.drive = .unstated) ∧
    (∀ r, s.enable = true → s.period = some r → s.drive = .toggle (Config.timerToggleTicks r))

/-- R70: the words of the text forms, and the transcriber's refusals of an operand out of range. -/
def Obligations.AssembleFollowsTheTextForm : Prop :=
  ∀ c : Config, c.Valid →
    assemble c .idle = .ok (.inject 0x0000#16) ∧
    (∀ v, v ≤ c.sampleMax → ∃ w, assemble c (.sample v) = .ok (.inject w) ∧ w.toNat = 0x4000 + v) ∧
    (∀ v, c.sampleMax < v → assemble c (.sample v) = .error .sampleAboveMax) ∧
    assemble c (.gate 0) = .ok (.inject 0x8000#16) ∧ assemble c (.gate 1) = .ok (.inject 0x8001#16) ∧
    (∀ a, 1 < a → assemble c (.gate a) = .error .gateNotBit) ∧
    (∀ w, w < 2 ^ 16 → assemble c (.word w) = .ok (.inject (BitVec.ofNat 16 w)))

/-- R70: a decimal or 0x hexadecimal operand is read as the number it spells, with any leading zeros, and
with hexadecimal digits of either case, so that 0xC000 and 0x0001 are read as written. R70 gives this form
for the operand of SAMPLE; that the other operands take it too, and that leading zeros and digits of either
case are accepted, is the model's choice (log 22). -/
def Obligations.OperandsAreReadAsSpelled : Prop :=
  (∀ n zeros : Nat, readNumber (List.replicate zeros '0' ++ Nat.toDigits 10 n) = some n) ∧
  (∀ (n zeros : Nat) (digits : List Char),
    digits.map Char.toLower = List.replicate zeros '0' ++ Nat.toDigits 16 n →
    readNumber ('0' :: 'x' :: digits) = some n)

/-! ## A running block in dutiful surroundings -/

/-- R141 with R156, one step at a time: a running block that meets the invariant, and whose surroundings
keep their duties in the agent steps to come, answers a next state, in which all three still hold. -/
def Obligations.StepKeepsDutifulSafety : Prop :=
  ∀ s : State, s.Inv → s.halted = false → dutiesKept s.cfg s.samplePending s.schedule = true →
    ∃ t, step s = .next t ∧ t.Inv ∧ t.halted = false ∧ dutiesKept t.cfg t.samplePending t.schedule = true
end

