-- ==== Sys2Proof/Laws/Mapper.lean ====
section
/-! SUPPORT. What the comparisons and the search of R91 can answer, under every configuration. -/

namespace Sys2Proof.Machine

open Sys2Proof

/-- A half-period that exceeds u/2 ticks exceeds every smaller t/2. -/
theorem exceedsHalves_anti {c : Config} {n : Int} {t u : Nat} (htu : t ≤ u) (h : exceedsHalves c n u = true) :
    exceedsHalves c n t = true := by
  have hp : (t * tickDen c) ^ pitchRoot c ≤ (u * tickDen c) ^ pitchRoot c := by gcongr
  dsimp only [exceedsHalves] at h ⊢
  split at h <;> simp_all only [if_true, if_false, decide_eq_true_eq]
  · exact lt_of_le_of_lt (Nat.mul_le_mul_right _ hp) h
  · exact lt_of_le_of_lt hp h

/-- An unclamped reload value of at least r is at least every smaller q. -/
theorem rawAtLeast_anti {c : Config} {n : Int} {q r : Nat} (hqr : q ≤ r) (h : rawAtLeast c n r = true) :
    rawAtLeast c n q = true := exceedsHalves_anti (by omega) h

/-- The search started between a lower and an upper bound answers the largest value that `rawAtLeast`
holds of, or 0. -/
theorem searchRaw_spec (c : Config) (n : Int) (bits r : Nat) (hr : r = 0 ∨ rawAtLeast c n r = true)
    (hb : rawAtLeast c n (r + 2 ^ bits) = false) :
    r ≤ searchRaw c n bits r ∧ searchRaw c n bits r < r + 2 ^ bits ∧
    (searchRaw c n bits r = 0 ∨ rawAtLeast c n (searchRaw c n bits r) = true) ∧
    rawAtLeast c n (searchRaw c n bits r + 1) = false := by
  induction bits generalizing r with
  | zero => simpa [searchRaw] using ⟨hr, hb⟩
  | succ bits ih =>
    rw [pow_succ, mul_two, ← add_assoc] at hb
    rw [pow_succ, mul_two]
    simp only [searchRaw]
    split
    · next h => have := ih (r + 2 ^ bits) (.inr h) hb; exact ⟨by omega, by omega, this.2.2⟩
    · next h => have := ih r hr (by simpa using h); exact ⟨by omega, by omega, this.2.2⟩

end Sys2Proof.Machine
end

