-- ==== Sys2Proof/Laws/State.lean ====
section
/-! SUPPORT. One lemma per field and update of the state: what each operation of Machine/Ops.lean leaves
in each field. Later proofs cite these and unfold no record update. -/

namespace Sys2Proof.Machine

open Sys2Proof

@[simp] theorem emit_cfg (o : OscWrite) (s : State) : (emit o s).cfg = s.cfg := rfl
@[simp] theorem emit_smoothedNote (o : OscWrite) (s : State) : (emit o s).smoothedNote = s.smoothedNote := rfl
@[simp] theorem emit_period (o : OscWrite) (s : State) : (emit o s).period = s.period := rfl
@[simp] theorem emit_periodValid (o : OscWrite) (s : State) : (emit o s).periodValid = s.periodValid := rfl
@[simp] theorem emit_enable (o : OscWrite) (s : State) : (emit o s).enable = s.enable := rfl
@[simp] theorem emit_clampHi (o : OscWrite) (s : State) : (emit o s).clampHi = s.clampHi := rfl
@[simp] theorem emit_clampLo (o : OscWrite) (s : State) : (emit o s).clampLo = s.clampLo := rfl
@[simp] theorem emit_cfgErr (o : OscWrite) (s : State) : (emit o s).cfgErr = s.cfgErr := rfl
@[simp] theorem emit_overrun (o : OscWrite) (s : State) : (emit o s).overrun = s.overrun := rfl
@[simp] theorem emit_rsvdEvt (o : OscWrite) (s : State) : (emit o s).rsvdEvt = s.rsvdEvt := rfl
@[simp] theorem emit_samplePending (o : OscWrite) (s : State) : (emit o s).samplePending = s.samplePending := rfl
@[simp] theorem emit_sampleLatch (o : OscWrite) (s : State) : (emit o s).sampleLatch = s.sampleLatch := rfl
@[simp] theorem emit_trace (o : OscWrite) (s : State) : (emit o s).trace = s.trace ++ [o] := rfl
@[simp] theorem emit_gateLine (o : OscWrite) (s : State) : (emit o s).gateLine = s.gateLine := rfl
@[simp] theorem emit_schedule (o : OscWrite) (s : State) : (emit o s).schedule = s.schedule := rfl

@[simp] theorem writePeriod_cfg (r : Reload) (s : State) : (writePeriod r s).cfg = s.cfg := rfl
@[simp] theorem writePeriod_smoothedNote (r : Reload) (s : State) : (writePeriod r s).smoothedNote = s.smoothedNote := rfl
@[simp] theorem writePeriod_period (r : Reload) (s : State) : (writePeriod r s).period = some r := rfl
@[simp] theorem writePeriod_periodValid (r : Reload) (s : State) : (writePeriod r s).periodValid = true := rfl
@[simp] theorem writePeriod_enable (r : Reload) (s : State) : (writePeriod r s).enable = s.enable := rfl
@[simp] theorem writePeriod_clampHi (r : Reload) (s : State) : (writePeriod r s).clampHi = s.clampHi := rfl
@[simp] theorem writePeriod_clampLo (r : Reload) (s : State) : (writePeriod r s).clampLo = s.clampLo := rfl
@[simp] theorem writePeriod_cfgErr (r : Reload) (s : State) : (writePeriod r s).cfgErr = s.cfgErr := rfl
@[simp] theorem writePeriod_overrun (r : Reload) (s : State) : (writePeriod r s).overrun = s.overrun := rfl
@[simp] theorem writePeriod_rsvdEvt (r : Reload) (s : State) : (writePeriod r s).rsvdEvt = s.rsvdEvt := rfl
@[simp] theorem writePeriod_samplePending (r : Reload) (s : State) : (writePeriod r s).samplePending = s.samplePending := rfl
@[simp] theorem writePeriod_sampleLatch (r : Reload) (s : State) : (writePeriod r s).sampleLatch = s.sampleLatch := rfl
@[simp] theorem writePeriod_trace (r : Reload) (s : State) : (writePeriod r s).trace = s.trace := rfl
@[simp] theorem writePeriod_gateLine (r : Reload) (s : State) : (writePeriod r s).gateLine = s.gateLine := rfl
@[simp] theorem writePeriod_schedule (r : Reload) (s : State) : (writePeriod r s).schedule = s.schedule := rfl

@[simp] theorem writeNote_cfg (n : NoteReg) (s : State) : (writeNote n s).cfg = s.cfg := rfl
@[simp] theorem writeNote_smoothedNote (n : NoteReg) (s : State) : (writeNote n s).smoothedNote = n := rfl
@[simp] theorem writeNote_period (n : NoteReg) (s : State) : (writeNote n s).period = s.period := rfl
@[simp] theorem writeNote_periodValid (n : NoteReg) (s : State) : (writeNote n s).periodValid = s.periodValid := rfl
@[simp] theorem writeNote_enable (n : NoteReg) (s : State) : (writeNote n s).enable = s.enable := rfl
@[simp] theorem writeNote_clampHi (n : NoteReg) (s : State) : (writeNote n s).clampHi = s.clampHi := rfl
@[simp] theorem writeNote_clampLo (n : NoteReg) (s : State) : (writeNote n s).clampLo = s.clampLo := rfl
@[simp] theorem writeNote_cfgErr (n : NoteReg) (s : State) : (writeNote n s).cfgErr = s.cfgErr := rfl
@[simp] theorem writeNote_overrun (n : NoteReg) (s : State) : (writeNote n s).overrun = s.overrun := rfl
@[simp] theorem writeNote_rsvdEvt (n : NoteReg) (s : State) : (writeNote n s).rsvdEvt = s.rsvdEvt := rfl
@[simp] theorem writeNote_samplePending (n : NoteReg) (s : State) : (writeNote n s).samplePending = s.samplePending := rfl
@[simp] theorem writeNote_sampleLatch (n : NoteReg) (s : State) : (writeNote n s).sampleLatch = s.sampleLatch := rfl
@[simp] theorem writeNote_trace (n : NoteReg) (s : State) : (writeNote n s).trace = s.trace := rfl
@[simp] theorem writeNote_gateLine (n : NoteReg) (s : State) : (writeNote n s).gateLine = s.gateLine := rfl
@[simp] theorem writeNote_schedule (n : NoteReg) (s : State) : (writeNote n s).schedule = s.schedule := rfl

@[simp] theorem writeEnable_cfg (b : Bool) (s : State) : (writeEnable b s).cfg = s.cfg := rfl
@[simp] theorem writeEnable_smoothedNote (b : Bool) (s : State) : (writeEnable b s).smoothedNote = s.smoothedNote := rfl
@[simp] theorem writeEnable_period (b : Bool) (s : State) : (writeEnable b s).period = s.period := rfl
@[simp] theorem writeEnable_periodValid (b : Bool) (s : State) : (writeEnable b s).periodValid = s.periodValid := rfl
@[simp] theorem writeEnable_enable (b : Bool) (s : State) : (writeEnable b s).enable = b := rfl
@[simp] theorem writeEnable_clampHi (b : Bool) (s : State) : (writeEnable b s).clampHi = s.clampHi := rfl
@[simp] theorem writeEnable_clampLo (b : Bool) (s : State) : (writeEnable b s).clampLo = s.clampLo := rfl
@[simp] theorem writeEnable_cfgErr (b : Bool) (s : State) : (writeEnable b s).cfgErr = s.cfgErr := rfl
@[simp] theorem writeEnable_overrun (b : Bool) (s : State) : (writeEnable b s).overrun = s.overrun := rfl
@[simp] theorem writeEnable_rsvdEvt (b : Bool) (s : State) : (writeEnable b s).rsvdEvt = s.rsvdEvt := rfl
@[simp] theorem writeEnable_samplePending (b : Bool) (s : State) : (writeEnable b s).samplePending = s.samplePending := rfl
@[simp] theorem writeEnable_sampleLatch (b : Bool) (s : State) : (writeEnable b s).sampleLatch = s.sampleLatch := rfl
@[simp] theorem writeEnable_trace (b : Bool) (s : State) : (writeEnable b s).trace = s.trace := rfl
@[simp] theorem writeEnable_gateLine (b : Bool) (s : State) : (writeEnable b s).gateLine = s.gateLine := rfl
@[simp] theorem writeEnable_schedule (b : Bool) (s : State) : (writeEnable b s).schedule = s.schedule := rfl

@[simp] theorem setClamps_cfg (s : State) (hi lo : Bool) : (s.setClamps hi lo).cfg = s.cfg := rfl
@[simp] theorem setClamps_smoothedNote (s : State) (hi lo : Bool) : (s.setClamps hi lo).smoothedNote = s.smoothedNote := rfl
@[simp] theorem setClamps_period (s : State) (hi lo : Bool) : (s.setClamps hi lo).period = s.period := rfl
@[simp] theorem setClamps_periodValid (s : State) (hi lo : Bool) : (s.setClamps hi lo).periodValid = s.periodValid := rfl
@[simp] theorem setClamps_enable (s : State) (hi lo : Bool) : (s.setClamps hi lo).enable = s.enable := rfl
@[simp] theorem setClamps_clampHi (s : State) (hi lo : Bool) : (s.setClamps hi lo).clampHi = hi := rfl
@[simp] theorem setClamps_clampLo (s : State) (hi lo : Bool) : (s.setClamps hi lo).clampLo = lo := rfl
@[simp] theorem setClamps_cfgErr (s : State) (hi lo : Bool) : (s.setClamps hi lo).cfgErr = s.cfgErr := rfl
@[simp] theorem setClamps_overrun (s : State) (hi lo : Bool) : (s.setClamps hi lo).overrun = s.overrun := rfl
@[simp] theorem setClamps_rsvdEvt (s : State) (hi lo : Bool) : (s.setClamps hi lo).rsvdEvt = s.rsvdEvt := rfl
@[simp] theorem setClamps_samplePending (s : State) (hi lo : Bool) : (s.setClamps hi lo).samplePending = s.samplePending := rfl
@[simp] theorem setClamps_sampleLatch (s : State) (hi lo : Bool) : (s.setClamps hi lo).sampleLatch = s.sampleLatch := rfl
@[simp] theorem setClamps_trace (s : State) (hi lo : Bool) : (s.setClamps hi lo).trace = s.trace := rfl
@[simp] theorem setClamps_gateLine (s : State) (hi lo : Bool) : (s.setClamps hi lo).gateLine = s.gateLine := rfl
@[simp] theorem setClamps_schedule (s : State) (hi lo : Bool) : (s.setClamps hi lo).schedule = s.schedule := rfl

@[simp] theorem latchSample_cfg (v : SampleField) (s : State) : (latchSample v s).cfg = s.cfg := rfl
@[simp] theorem latchSample_smoothedNote (v : SampleField) (s : State) : (latchSample v s).smoothedNote = s.smoothedNote := rfl
@[simp] theorem latchSample_period (v : SampleField) (s : State) : (latchSample v s).period = s.period := rfl
@[simp] theorem latchSample_periodValid (v : SampleField) (s : State) : (latchSample v s).periodValid = s.periodValid := rfl
@[simp] theorem latchSample_enable (v : SampleField) (s : State) : (latchSample v s).enable = s.enable := rfl
@[simp] theorem latchSample_clampHi (v : SampleField) (s : State) : (latchSample v s).clampHi = s.clampHi := rfl
@[simp] theorem latchSample_clampLo (v : SampleField) (s : State) : (latchSample v s).clampLo = s.clampLo := rfl
@[simp] theorem latchSample_cfgErr (v : SampleField) (s : State) : (latchSample v s).cfgErr = s.cfgErr := rfl
@[simp] theorem latchSample_overrun (v : SampleField) (s : State) : (latchSample v s).overrun = s.overrun := rfl
@[simp] theorem latchSample_rsvdEvt (v : SampleField) (s : State) : (latchSample v s).rsvdEvt = s.rsvdEvt := rfl
@[simp] theorem latchSample_samplePending (v : SampleField) (s : State) : (latchSample v s).samplePending = true := rfl
@[simp] theorem latchSample_sampleLatch (v : SampleField) (s : State) : (latchSample v s).sampleLatch = some v := rfl
@[simp] theorem latchSample_trace (v : SampleField) (s : State) : (latchSample v s).trace = s.trace := rfl
@[simp] theorem latchSample_gateLine (v : SampleField) (s : State) : (latchSample v s).gateLine = s.gateLine := rfl
@[simp] theorem latchSample_schedule (v : SampleField) (s : State) : (latchSample v s).schedule = s.schedule := rfl

@[simp] theorem clearLatch_cfg (s : State) : (clearLatch s).cfg = s.cfg := rfl
@[simp] theorem clearLatch_smoothedNote (s : State) : (clearLatch s).smoothedNote = s.smoothedNote := rfl
@[simp] theorem clearLatch_period (s : State) : (clearLatch s).period = s.period := rfl
@[simp] theorem clearLatch_periodValid (s : State) : (clearLatch s).periodValid = s.periodValid := rfl
@[simp] theorem clearLatch_enable (s : State) : (clearLatch s).enable = s.enable := rfl
@[simp] theorem clearLatch_clampHi (s : State) : (clearLatch s).clampHi = s.clampHi := rfl
@[simp] theorem clearLatch_clampLo (s : State) : (clearLatch s).clampLo = s.clampLo := rfl
@[simp] theorem clearLatch_cfgErr (s : State) : (clearLatch s).cfgErr = s.cfgErr := rfl
@[simp] theorem clearLatch_overrun (s : State) : (clearLatch s).overrun = s.overrun := rfl
@[simp] theorem clearLatch_rsvdEvt (s : State) : (clearLatch s).rsvdEvt = s.rsvdEvt := rfl
@[simp] theorem clearLatch_samplePending (s : State) : (clearLatch s).samplePending = false := rfl
@[simp] theorem clearLatch_sampleLatch (s : State) : (clearLatch s).sampleLatch = none := rfl
@[simp] theorem clearLatch_trace (s : State) : (clearLatch s).trace = s.trace := rfl
@[simp] theorem clearLatch_gateLine (s : State) : (clearLatch s).gateLine = s.gateLine := rfl
@[simp] theorem clearLatch_schedule (s : State) : (clearLatch s).schedule = s.schedule := rfl

@[simp] theorem writeLine_cfg (l : Bool) (s : State) : (writeLine l s).cfg = s.cfg := rfl
@[simp] theorem writeLine_smoothedNote (l : Bool) (s : State) : (writeLine l s).smoothedNote = s.smoothedNote := rfl
@[simp] theorem writeLine_period (l : Bool) (s : State) : (writeLine l s).period = s.period := rfl
@[simp] theorem writeLine_periodValid (l : Bool) (s : State) : (writeLine l s).periodValid = s.periodValid := rfl
@[simp] theorem writeLine_enable (l : Bool) (s : State) : (writeLine l s).enable = s.enable := rfl
@[simp] theorem writeLine_clampHi (l : Bool) (s : State) : (writeLine l s).clampHi = s.clampHi := rfl
@[simp] theorem writeLine_clampLo (l : Bool) (s : State) : (writeLine l s).clampLo = s.clampLo := rfl
@[simp] theorem writeLine_cfgErr (l : Bool) (s : State) : (writeLine l s).cfgErr = s.cfgErr := rfl
@[simp] theorem writeLine_overrun (l : Bool) (s : State) : (writeLine l s).overrun = s.overrun := rfl
@[simp] theorem writeLine_rsvdEvt (l : Bool) (s : State) : (writeLine l s).rsvdEvt = s.rsvdEvt := rfl
@[simp] theorem writeLine_samplePending (l : Bool) (s : State) : (writeLine l s).samplePending = s.samplePending := rfl
@[simp] theorem writeLine_sampleLatch (l : Bool) (s : State) : (writeLine l s).sampleLatch = s.sampleLatch := rfl
@[simp] theorem writeLine_trace (l : Bool) (s : State) : (writeLine l s).trace = s.trace := rfl
@[simp] theorem writeLine_gateLine (l : Bool) (s : State) : (writeLine l s).gateLine = l := rfl
@[simp] theorem writeLine_schedule (l : Bool) (s : State) : (writeLine l s).schedule = s.schedule := rfl

@[simp] theorem acceptSample_cfg (r : Mapped) (s : State) : (acceptSample r s).cfg = s.cfg := rfl
@[simp] theorem acceptSample_smoothedNote (r : Mapped) (s : State) : (acceptSample r s).smoothedNote = r.smoothed := rfl
@[simp] theorem acceptSample_period (r : Mapped) (s : State) : (acceptSample r s).period = some r.reload := rfl
@[simp] theorem acceptSample_periodValid (r : Mapped) (s : State) : (acceptSample r s).periodValid = true := rfl
@[simp] theorem acceptSample_enable (r : Mapped) (s : State) : (acceptSample r s).enable = s.enable := rfl
@[simp] theorem acceptSample_clampHi (r : Mapped) (s : State) : (acceptSample r s).clampHi = r.clampHi := rfl
@[simp] theorem acceptSample_clampLo (r : Mapped) (s : State) : (acceptSample r s).clampLo = r.clampLo := rfl
@[simp] theorem acceptSample_cfgErr (r : Mapped) (s : State) : (acceptSample r s).cfgErr = s.cfgErr := rfl
@[simp] theorem acceptSample_overrun (r : Mapped) (s : State) : (acceptSample r s).overrun = s.overrun := rfl
@[simp] theorem acceptSample_rsvdEvt (r : Mapped) (s : State) : (acceptSample r s).rsvdEvt = s.rsvdEvt := rfl
@[simp] theorem acceptSample_samplePending (r : Mapped) (s : State) : (acceptSample r s).samplePending = s.samplePending := rfl
@[simp] theorem acceptSample_sampleLatch (r : Mapped) (s : State) : (acceptSample r s).sampleLatch = s.sampleLatch := rfl
@[simp] theorem acceptSample_trace (r : Mapped) (s : State) : (acceptSample r s).trace = s.trace ++ [.setPeriod r.reload] := rfl
@[simp] theorem acceptSample_gateLine (r : Mapped) (s : State) : (acceptSample r s).gateLine = s.gateLine := rfl
@[simp] theorem acceptSample_schedule (r : Mapped) (s : State) : (acceptSample r s).schedule = s.schedule := rfl

@[simp] theorem acceptGate_cfg (a : Bool) (s : State) : (acceptGate a s).cfg = s.cfg := rfl
@[simp] theorem acceptGate_smoothedNote (a : Bool) (s : State) : (acceptGate a s).smoothedNote = s.smoothedNote := rfl
@[simp] theorem acceptGate_period (a : Bool) (s : State) : (acceptGate a s).period = s.period := rfl
@[simp] theorem acceptGate_periodValid (a : Bool) (s : State) : (acceptGate a s).periodValid = s.periodValid := rfl
@[simp] theorem acceptGate_enable (a : Bool) (s : State) : (acceptGate a s).enable = a := rfl
@[simp] theorem acceptGate_clampHi (a : Bool) (s : State) : (acceptGate a s).clampHi = s.clampHi := rfl
@[simp] theorem acceptGate_clampLo (a : Bool) (s : State) : (acceptGate a s).clampLo = s.clampLo := rfl
@[simp] theorem acceptGate_cfgErr (a : Bool) (s : State) : (acceptGate a s).cfgErr = s.cfgErr := rfl
@[simp] theorem acceptGate_overrun (a : Bool) (s : State) : (acceptGate a s).overrun = s.overrun := rfl
@[simp] theorem acceptGate_rsvdEvt (a : Bool) (s : State) : (acceptGate a s).rsvdEvt = s.rsvdEvt := rfl
@[simp] theorem acceptGate_samplePending (a : Bool) (s : State) : (acceptGate a s).samplePending = s.samplePending := rfl
@[simp] theorem acceptGate_sampleLatch (a : Bool) (s : State) : (acceptGate a s).sampleLatch = s.sampleLatch := rfl
@[simp] theorem acceptGate_trace (a : Bool) (s : State) : (acceptGate a s).trace = s.trace ++ [.setEnabled a] := rfl
@[simp] theorem acceptGate_gateLine (a : Bool) (s : State) : (acceptGate a s).gateLine = s.gateLine := rfl
@[simp] theorem acceptGate_schedule (a : Bool) (s : State) : (acceptGate a s).schedule = s.schedule := rfl

@[simp] theorem resetUnder_cfg (c : Config) (l : Bool) (sch : List AgentStep) : (State.resetUnder c l sch).cfg = c := rfl
@[simp] theorem resetUnder_smoothedNote (c : Config) (l : Bool) (sch : List AgentStep) : (State.resetUnder c l sch).smoothedNote = c.resetNote := rfl
@[simp] theorem resetUnder_period (c : Config) (l : Bool) (sch : List AgentStep) : (State.resetUnder c l sch).period = none := rfl
@[simp] theorem resetUnder_periodValid (c : Config) (l : Bool) (sch : List AgentStep) : (State.resetUnder c l sch).periodValid = false := rfl
@[simp] theorem resetUnder_enable (c : Config) (l : Bool) (sch : List AgentStep) : (State.resetUnder c l sch).enable = c.resetEnable := rfl
@[simp] theorem resetUnder_clampHi (c : Config) (l : Bool) (sch : List AgentStep) : (State.resetUnder c l sch).clampHi = false := rfl
@[simp] theorem resetUnder_clampLo (c : Config) (l : Bool) (sch : List AgentStep) : (State.resetUnder c l sch).clampLo = false := rfl
@[simp] theorem resetUnder_cfgErr (c : Config) (l : Bool) (sch : List AgentStep) : (State.resetUnder c l sch).cfgErr = !c.valid := rfl
@[simp] theorem resetUnder_overrun (c : Config) (l : Bool) (sch : List AgentStep) : (State.resetUnder c l sch).overrun = false := rfl
@[simp] theorem resetUnder_rsvdEvt (c : Config) (l : Bool) (sch : List AgentStep) : (State.resetUnder c l sch).rsvdEvt = false := rfl
@[simp] theorem resetUnder_samplePending (c : Config) (l : Bool) (sch : List AgentStep) : (State.resetUnder c l sch).samplePending = false := rfl
@[simp] theorem resetUnder_sampleLatch (c : Config) (l : Bool) (sch : List AgentStep) : (State.resetUnder c l sch).sampleLatch = none := rfl
@[simp] theorem resetUnder_trace (c : Config) (l : Bool) (sch : List AgentStep) : (State.resetUnder c l sch).trace = [] := rfl
@[simp] theorem resetUnder_gateLine (c : Config) (l : Bool) (sch : List AgentStep) : (State.resetUnder c l sch).gateLine = l := rfl
@[simp] theorem resetUnder_schedule (c : Config) (l : Bool) (sch : List AgentStep) : (State.resetUnder c l sch).schedule = sch := rfl

@[simp] theorem placeWord_cfg (s : State) (w : EventWord) : (placeWord s w).cfg = s.cfg := rfl
@[simp] theorem placeWord_smoothedNote (s : State) (w : EventWord) : (placeWord s w).smoothedNote = s.smoothedNote := rfl
@[simp] theorem placeWord_period (s : State) (w : EventWord) : (placeWord s w).period = s.period := rfl
@[simp] theorem placeWord_periodValid (s : State) (w : EventWord) : (placeWord s w).periodValid = s.periodValid := rfl
@[simp] theorem placeWord_enable (s : State) (w : EventWord) : (placeWord s w).enable = s.enable := rfl
@[simp] theorem placeWord_clampHi (s : State) (w : EventWord) : (placeWord s w).clampHi = s.clampHi := rfl
@[simp] theorem placeWord_clampLo (s : State) (w : EventWord) : (placeWord s w).clampLo = s.clampLo := rfl
@[simp] theorem placeWord_cfgErr (s : State) (w : EventWord) : (placeWord s w).cfgErr = s.cfgErr := rfl
@[simp] theorem placeWord_overrun (s : State) (w : EventWord) : (placeWord s w).overrun = s.overrun := rfl
@[simp] theorem placeWord_rsvdEvt (s : State) (w : EventWord) : (placeWord s w).rsvdEvt = s.rsvdEvt := rfl
@[simp] theorem placeWord_samplePending (s : State) (w : EventWord) : (placeWord s w).samplePending = s.samplePending := rfl
@[simp] theorem placeWord_sampleLatch (s : State) (w : EventWord) : (placeWord s w).sampleLatch = s.sampleLatch := rfl
@[simp] theorem placeWord_trace (s : State) (w : EventWord) : (placeWord s w).trace = s.trace := rfl
@[simp] theorem placeWord_gateLine (s : State) (w : EventWord) : (placeWord s w).gateLine = s.gateLine := rfl
@[simp] theorem placeWord_schedule (s : State) (w : EventWord) : (placeWord s w).schedule = .inject w :: s.schedule := rfl

@[simp] theorem raiseFault_cfg (f : StickyFault) (s : State) : (raiseFault f s).cfg = s.cfg := by cases f <;> rfl
@[simp] theorem raiseFault_smoothedNote (f : StickyFault) (s : State) : (raiseFault f s).smoothedNote = s.smoothedNote := by cases f <;> rfl
@[simp] theorem raiseFault_period (f : StickyFault) (s : State) : (raiseFault f s).period = s.period := by cases f <;> rfl
@[simp] theorem raiseFault_periodValid (f : StickyFault) (s : State) : (raiseFault f s).periodValid = s.periodValid := by cases f <;> rfl
@[simp] theorem raiseFault_enable (f : StickyFault) (s : State) : (raiseFault f s).enable = s.enable := by cases f <;> rfl
@[simp] theorem raiseFault_clampHi (f : StickyFault) (s : State) : (raiseFault f s).clampHi = s.clampHi := by cases f <;> rfl
@[simp] theorem raiseFault_clampLo (f : StickyFault) (s : State) : (raiseFault f s).clampLo = s.clampLo := by cases f <;> rfl
@[simp] theorem raiseFault_cfgErr (f : StickyFault) (s : State) : (raiseFault f s).cfgErr = (s.cfgErr || f == .cfgErr) := by cases f <;> simp [raiseFault]
@[simp] theorem raiseFault_overrun (f : StickyFault) (s : State) : (raiseFault f s).overrun = (s.overrun || f == .overrun) := by cases f <;> simp [raiseFault]
@[simp] theorem raiseFault_rsvdEvt (f : StickyFault) (s : State) : (raiseFault f s).rsvdEvt = (s.rsvdEvt || f == .rsvdEvt) := by cases f <;> simp [raiseFault]
@[simp] theorem raiseFault_samplePending (f : StickyFault) (s : State) : (raiseFault f s).samplePending = s.samplePending := by cases f <;> rfl
@[simp] theorem raiseFault_sampleLatch (f : StickyFault) (s : State) : (raiseFault f s).sampleLatch = s.sampleLatch := by cases f <;> rfl
@[simp] theorem raiseFault_trace (f : StickyFault) (s : State) : (raiseFault f s).trace = s.trace := by cases f <;> rfl
@[simp] theorem raiseFault_gateLine (f : StickyFault) (s : State) : (raiseFault f s).gateLine = s.gateLine := by cases f <;> rfl
@[simp] theorem raiseFault_schedule (f : StickyFault) (s : State) : (raiseFault f s).schedule = s.schedule := by cases f <;> rfl

/-- A reset is the state right after reset, under the machine's own configuration. -/
theorem resetBlock_eq (s : State) : resetBlock s = State.resetUnder s.cfg s.gateLine s.schedule := rfl

end Sys2Proof.Machine
end

