-- ==== Sys2Proof/Laws/Ops.lean ====
section
/-! SUPPORT. One lemma per shared operation that says everything it can do. Proofs about a step cite
`exec_next`, `agentStep_next` and `step_next`, and unfold no meaning. -/

namespace Sys2Proof.Machine

open Sys2Proof

theorem unlessHalted_of_halted {s : State} (h : s.halted = true) (k : Host.Outcome State Fault Refusal) :
    unlessHalted s k = .next s := if_pos h

theorem unlessHalted_of_running {s : State} (h : s.halted = false) (k : Host.Outcome State Fault Refusal) :
    unlessHalted s k = k := by simp [unlessHalted, h]

/-- The eight clauses of R152. -/
theorem valid_iff (c : Config) : c.Valid ↔
    (1 ≤ c.sampleBits ∧ c.sampleBits ≤ 14) ∧ 1 ≤ c.sampleRangeSize ∧ (c.sampleMax : Int) ≤ c.sampleRangeSize ∧
    (0 ≤ c.scaleBottom ∧ c.scaleBottom ≤ c.scaleTop ∧ c.scaleTop ≤ 255) ∧ (0 ≤ c.refNote ∧ c.refNote ≤ 255) ∧
    0 < c.refFrequency ∧ 1 ≤ c.semitonesPerOctave ∧ (1 ≤ c.clkHz ∧ 1 ≤ c.prescaler) := by
  simp only [Config.Valid, Config.valid, decide_eq_true_eq]

/-- A raised fault halts the block (R156). -/
@[simp] theorem raiseFault_halted (f : StickyFault) (s : State) : (raiseFault f s).halted = true := by
  cases f <;> simp [State.halted]

/-- A raised fault is the one fault that is set anew. -/
theorem raiseFault_faultBit (f g : StickyFault) (s : State) :
    (raiseFault f s).faultBit g = (s.faultBit g || f == g) := by
  cases f <;> cases g <;> simp [State.faultBit]

/-- HALTED is that some fault bit is set (R28). -/
theorem halted_iff_faultBit (s : State) : s.halted = true ↔ ∃ f, s.faultBit f = true := by
  constructor
  · intro h
    simp only [State.halted, Bool.or_eq_true] at h
    obtain (h | h) | h := h
    · exact ⟨.cfgErr, h⟩
    · exact ⟨.overrun, h⟩
    · exact ⟨.rsvdEvt, h⟩
  · rintro ⟨f, h⟩
    cases f <;> simp_all [State.faultBit, State.halted]

/-- HALTED reads the three fault bits and nothing else. -/
theorem halted_congr {s t : State} (h1 : t.cfgErr = s.cfgErr) (h2 : t.overrun = s.overrun)
    (h3 : t.rsvdEvt = s.rsvdEvt) : t.halted = s.halted := by simp [State.halted, h1, h2, h3]

@[simp] theorem acceptSample_halted (r : Mapped) (s : State) : (acceptSample r s).halted = s.halted := rfl
@[simp] theorem acceptGate_halted (a : Bool) (s : State) : (acceptGate a s).halted = s.halted := rfl
@[simp] theorem latchSample_halted (v : SampleField) (s : State) : (latchSample v s).halted = s.halted := rfl
@[simp] theorem clearLatch_halted (s : State) : (clearLatch s).halted = s.halted := rfl
@[simp] theorem writeLine_halted (l : Bool) (s : State) : (writeLine l s).halted = s.halted := rfl

/-- Everything an event can do when it answers a next state. -/
theorem exec_next {i : Instr} {s t : State} (h : exec i s = .next t) :
    (s.halted = true ∧ t = s) ∨
    (s.halted = false ∧
      ((i = .idle ∧ t = s) ∨
       (∃ v, i = .sample v ∧ s.cfg.Valid ∧ s.cfg.Fits v ∧ t = acceptSample (mapSample s.cfg v s.smoothedNote) s) ∨
       (∃ a, i = .gate a ∧ t = acceptGate a s) ∨
       (∃ w, i = .reserved w ∧ t = raiseFault .rsvdEvt s))) := by
  cases hh : s.halted with
  | true =>
    left
    cases i <;> simp_all [exec, execIdle, execSample, execGate, execReserved, unlessHalted]
  | false =>
    right
    refine ⟨rfl, ?_⟩
    cases i with
    | idle => simp_all [exec, execIdle, unlessHalted]
    | sample v =>
      simp only [exec, execSample, unlessHalted_of_running hh] at h
      split at h
      · cases h
      · next hv =>
        split at h
        · cases h
        · next hf =>
          cases h
          exact .inr (.inl ⟨v, rfl, not_not.mp hv, not_not.mp hf, rfl⟩)
    | gate a => simp_all [exec, execGate, unlessHalted]
    | reserved w => simp_all [exec, execReserved, unlessHalted]

/-- An event never faults. -/
theorem exec_not_fault (i : Instr) (s : State) (f : Fault) : exec i s ≠ .fault f := by
  cases i <;> simp only [exec, execIdle, execSample, execGate, execReserved, unlessHalted] <;>
    repeat' split
  all_goals simp

/-- Two parts of an atomic step answer a next state only one after the other. -/
theorem andThen_next {o : Host.Outcome State Fault Refusal} {k : State → Host.Outcome State Fault Refusal}
    {t : State} (h : andThen o k = .next t) : ∃ m, o = .next m ∧ k m = .next t := by
  cases o <;> simp_all [andThen]

/-- Everything an arrival can do when it answers a next state (R131 to R133). -/
theorem arrive_next {v : SampleField} {s t : State} (h : arrive v s = .next t) :
    (s.halted = true ∧ t = s) ∨
    (s.halted = false ∧ s.samplePending = true ∧ t = raiseFault .overrun s) ∨
    (s.halted = false ∧ s.samplePending = false ∧ s.cfg.Fits v ∧ t = latchSample v s) := by
  unfold arrive at h
  split at h
  · cases h
    simp_all
  · split at h
    · cases h
      simp_all
    · split at h
      · cases h
        simp_all
      · cases h

/-- Everything an iteration can do when it answers a next state (R134). -/
theorem iteration_next {s t : State} (h : iteration s = .next t) :
    (s.halted = true ∧ t = s) ∨
    (s.halted = false ∧ s.samplePending = false ∧ pollGate s = .next t) ∨
    (∃ v m, s.halted = false ∧ s.samplePending = true ∧ s.sampleLatch = some v ∧
      coreStep (serviceWord v) (clearLatch s) = .next m ∧ pollGate m = .next t) := by
  unfold iteration at h
  split at h
  · cases h
    simp_all
  · obtain ⟨m, hm, ht⟩ := andThen_next h
    unfold servicePending at hm
    split at hm
    · split at hm
      · exact .inr (.inr ⟨_, m, by simp_all, by assumption, by assumption, hm, ht⟩)
      · cases hm
    · cases hm
      exact .inr (.inl ⟨by simp_all, by simp_all, ht⟩)

/-- Everything a step can do when it answers a next state: nothing, or the oldest agent step. -/
theorem step_next {s t : State} (h : step s = .next t) :
    (s.schedule = [] ∧ t = s) ∨
    (∃ a rest, s.schedule = a :: rest ∧ agentStep a { s with schedule := rest } = .next t) := by
  unfold step nextAgentStep at h
  split at h
  · cases h
    simp_all
  · exact .inr ⟨_, _, by assumption, h⟩

/-- A step whose schedule begins with an agent step is that agent's step. -/
theorem step_of_schedule {s : State} {a : AgentStep} {rest : List AgentStep} (h : s.schedule = a :: rest) :
    step s = agentStep a { s with schedule := rest } := by
  simp [step, nextAgentStep, h]

/-- Of two parts of an atomic step a fault is the first's, or the second's after the first. -/
theorem andThen_fault {o : Host.Outcome State Fault Refusal} {k : State → Host.Outcome State Fault Refusal}
    {f : Fault} (h : andThen o k = .fault f) : o = .fault f ∨ ∃ m, o = .next m ∧ k m = .fault f := by
  cases o <;> simp_all [andThen]

/-- A service faults on an empty latch with its bit set alone. -/
theorem servicePending_fault {s : State} {f : Fault} (h : servicePending s = .fault f) :
    f = .sampleLatchHasNoValue ∧ s.samplePending = true ∧ s.sampleLatch = none := by
  unfold servicePending at h
  split at h
  · split at h
    · exact absurd h (exec_not_fault _ _ _)
    · cases h
      exact ⟨rfl, by assumption, by assumption⟩
  · cases h

/-- The one fault a step can answer is the empty latch with its bit set: no step reads PERIOD, so none
answers `periodHasNoValue`. -/
theorem step_fault {s : State} {f : Fault} (h : step s = .fault f) :
    f = .sampleLatchHasNoValue ∧ s.samplePending = true ∧ s.sampleLatch = none := by
  unfold step nextAgentStep at h
  split at h
  · cases h
  · next a rest _ =>
    cases a with
    | line l => cases h
    | reset => cases h
    | inject w => exact absurd h (exec_not_fault _ _ _)
    | arrive v =>
      simp only [agentStep, arrive] at h
      repeat' split at h
      all_goals cases h
    | iterate =>
      simp only [agentStep, iteration] at h
      split at h
      · cases h
      · rcases andThen_fault h with h | ⟨m, _, h⟩
        · simpa using servicePending_fault h
        · exact absurd h (exec_not_fault _ _ _)

end Sys2Proof.Machine
end

