-- ==== Sys2Proof/Laws/PerInstr.lean ====
section
/-! SUPPORT. Per instruction: where its fields stand in its word (30_encoding R62 to R65, R67). -/

namespace Sys2Proof.Laws.EncodeFields

open Sys2Proof

/-- The fields of an instruction's word are those of its format. -/
def Statement : Instr → Prop
  | .idle => kindField (encode .idle) = 0 ∧ payloadField (encode .idle) = 0
  | .sample v => kindField (encode (.sample v)) = 1 ∧ payloadField (encode (.sample v)) = v
  | .gate a =>
    kindField (encode (.gate a)) = 2 ∧ gateZeroField (encode (.gate a)) = 0 ∧ (encode (.gate a)).getLsbD 0 = a
  | .reserved w => encode (.reserved w) = w

theorem idle : Statement .idle := by simp only [Statement]; decide

theorem sample (v : SampleField) : Statement (.sample v) := by
  constructor
  · apply BitVec.eq_of_getLsbD_eq
    intro i hi
    have : i = 0 ∨ i = 1 := by omega
    rcases this with rfl | rfl <;> simp [kindField, encode, sampleWord]
  · apply BitVec.eq_of_getLsbD_eq
    intro i hi
    simp only [payloadField, encode, sampleWord, BitVec.getLsbD_extractLsb', BitVec.getLsbD_or, BitVec.getLsbD_setWidth]
    have : (0x4000#16).getLsbD (0 + i) = false := by
      interval_cases i <;> decide
    rw [this]
    simp only [hi, Bool.false_or, Nat.zero_add, decide_true, Bool.true_and]
    have : i < 16 := by omega
    simp [this]

theorem gate (active : Bool) : Statement (.gate active) := by
  cases active <;> simp only [Statement] <;> decide

theorem reserved (w : EventWord) : Statement (.reserved w) := rfl

end Sys2Proof.Laws.EncodeFields
end

