-- ==== Sys2Proof/Laws/Safety.lean ====
section
/-! SUPPORT. Small facts about the invariant: it does not speak of the schedule or the gate line, and a
running block that meets it has a valid configuration. -/

namespace Sys2Proof.Machine

open Sys2Proof

/-- The invariant does not depend on the agent steps to come. -/
theorem inv_withSchedule {s : State} (h : s.Inv) (sch : List AgentStep) : ({ s with schedule := sch } : State).Inv where
  cfgErr_iff := h.cfgErr_iff
  one_fault := fun f g => by
    have := h.one_fault f g
    cases f <;> cases g <;> exact this
  period_iff := h.period_iff
  latch_iff := h.latch_iff
  latch_fits := h.latch_fits
  overrun_pending := h.overrun_pending
  refused_start := h.refused_start
  note_range := h.note_range
  no_sample_yet := h.no_sample_yet
  same_sample := h.same_sample
  last_period := h.last_period
  last_enable := h.last_enable

/-- A running block that meets the invariant has a valid configuration (R152). -/
theorem valid_of_running {s : State} (h : s.Inv) (hr : s.halted = false) : s.cfg.Valid := by
  by_contra hv
  simp [State.halted, h.cfgErr_iff.mpr hv] at hr

/-- A running block that meets the invariant has a latched sample exactly while one is pending (R29). -/
theorem latch_of_pending {s : State} (h : s.Inv) (hp : s.samplePending = true) :
    ∃ v, s.sampleLatch = some v ∧ s.cfg.Fits v := by
  obtain ⟨v, hv⟩ := Option.isSome_iff_exists.mp (h.latch_iff.trans hp)
  exact ⟨v, hv, h.latch_fits v hv⟩

@[simp] theorem lastPeriod_append_period (t : List OscWrite) (r : Reload) : lastPeriod (t ++ [.setPeriod r]) = some r := by
  simp [lastPeriod]
@[simp] theorem lastPeriod_append_enabled (t : List OscWrite) (b : Bool) : lastPeriod (t ++ [.setEnabled b]) = lastPeriod t := by
  simp [lastPeriod]
@[simp] theorem lastEnable_append_period (t : List OscWrite) (r : Reload) : lastEnable (t ++ [.setPeriod r]) = lastEnable t := by
  simp [lastEnable]
@[simp] theorem lastEnable_append_enabled (t : List OscWrite) (b : Bool) : lastEnable (t ++ [.setEnabled b]) = some b := by
  simp [lastEnable]

end Sys2Proof.Machine
end

