-- ==== Sys2Proof/Tests/Slice0.lean ====
section
/-! SUPPORT. The model's own tests. Expected values are those of spec/95_test_vectors.md (the section is
named) or are written out from an encoding of spec/30_encoding.md. The second half gives, for each
statement with hypotheses, a concrete state and operands that meet them all: `witness_<statement>`. -/

namespace Sys2Proof.Tests

open Sys2Proof Sys2Proof.Machine

/-- What 95's tables show of an outcome: SMOOTHED_NOTE, PERIOD, ENABLE, STATUS and the trace. -/
def look (o : Host.Outcome State Fault Refusal) : Option (NoteReg × Option Reload × Bool × BitVec 16 × List OscWrite) :=
  match o with
  | .next s => some (s.smoothedNote, s.period, s.enable, s.status, s.trace)
  | _ => none

/-- What 95 §7 shows of an outcome: SAMPLE_PENDING and SAMPLE_LATCH. -/
def lookLatch (o : Host.Outcome State Fault Refusal) : Option (Bool × Option SampleField) :=
  match o with
  | .next s => some (s.samplePending, s.sampleLatch)
  | _ => none

/-- A state with one more agent step placed first. -/
def placed (a : AgentStep) (s : State) : State := { s with schedule := a :: s.schedule }

/-- Right after reset with sample 100 latched (95 §7). -/
def pending100 : State := latchSample 100#14 State.reset

/-- Right after reset with RSVD_EVT raised (95 §6). -/
def halted : State := raiseFault .rsvdEvt State.reset

/-- The configuration of 95 program P7. -/
def clampCfg : Config := { Config.reference with scaleBottom := 24, scaleTop := 48, prescaler := 1 }

/-- The configuration of 95 program P8. -/
def zeroSemitones : Config := { Config.reference with semitonesPerOctave := 0 }

/-! ## Well-formedness: an ill-formed term for each check -/

theorem test_wf_sample_too_wide : ¬ (Instr.sample 1024#14).WellFormed Config.reference := by decide
theorem test_wf_sample_largest : (Instr.sample 1023#14).WellFormed Config.reference := by decide
theorem test_wf_reserved_idle_word : ¬ (Instr.reserved 0x0000#16).WellFormed Config.reference := by decide
theorem test_wf_reserved_sample_word : ¬ (Instr.reserved 0x43FF#16).WellFormed Config.reference := by decide
theorem test_wf_reserved_gate_word : ¬ (Instr.reserved 0x8001#16).WellFormed Config.reference := by decide
theorem test_wf_reserved_kinds :
    (Instr.reserved 0x0001#16).WellFormed Config.reference ∧ (Instr.reserved 0x4400#16).WellFormed Config.reference ∧
    (Instr.reserved 0x8002#16).WellFormed Config.reference ∧ (Instr.reserved 0xC000#16).WellFormed Config.reference := by
  decide

/-! ## Decoding: words written out bit by bit from R62 to R64 and R67 -/

theorem test_decode_idle : decodeWord Config.reference 0b0000000000000000#16 = .idle := by decide
/-- KIND 01, VALUE 00001000000001: sample 513. -/
theorem test_decode_sample : decodeWord Config.reference 0b0100001000000001#16 = .sample 513#14 := by decide
/-- KIND 10, thirteen zeros, ACTIVE 1. -/
theorem test_decode_gate_active : decodeWord Config.reference 0b1000000000000001#16 = .gate true := by decide
theorem test_decode_gate_inactive : decodeWord Config.reference 0b1000000000000000#16 = .gate false := by decide
theorem test_decode_kind_11 : decodeWord Config.reference 0b1100000000000000#16 = .reserved 0xC000#16 := by decide
theorem test_decode_idle_payload : decodeWord Config.reference 0x3FFF#16 = .reserved 0x3FFF#16 := by decide
theorem test_decode_sample_oversized : decodeWord Config.reference 0x7FFF#16 = .reserved 0x7FFF#16 := by decide
theorem test_decode_gate_payload : decodeWord Config.reference 0xBFFF#16 = .reserved 0xBFFF#16 := by decide
/-- 95 §5: with SAMPLE_BITS = 14 every word 0x4000 to 0x7FFF is a SAMPLE. -/
theorem test_decode_fourteen_bits :
    decodeWord { Config.reference with sampleBits := 14 } 0x7FFF#16 = .sample 0x3FFF#14 := by decide
theorem test_encode_words :
    encode .idle = 0x0000#16 ∧ encode (.sample 1023#14) = 0x43FF#16 ∧ encode (.gate true) = 0x8001#16 ∧
    encode (.reserved 0xC000#16) = 0xC000#16 := by decide
theorem test_table_rows :
    decodeTableWord 16 0x0000 = some .idle ∧ decodeTableWord 16 0x4000 = some (.sample 0#14) ∧
    decodeTableWord 16 0x8000 = some (.gate false) ∧ decodeTableWord 16 0xC000 = some (.reserved 0xC000#16) ∧
    decodeTableWord 24 0x0000 = none := by decide

/-! ## One event from reset (95 §6) -/

theorem test_idle : look (step (State.reset.withFetchWord 16 0x0000)) = some (57#8, none, true, 0x0000#16, []) := by
  decide
theorem test_sample_0 :
    look (step (State.reset.withFetchWord 16 0x4000)) =
      some (43#8, some 4957#16, true, 0x0008#16, [.setPeriod 4957#16]) := by decide
theorem test_gate_0 :
    look (step (State.reset.withFetchWord 16 0x8000)) = some (57#8, none, false, 0x0000#16, [.setEnabled false]) := by
  decide
theorem test_reserved : look (step (State.reset.withFetchWord 16 0x4400)) = some (57#8, none, true, 0x0004#16, []) := by
  decide
/-- 95 P4 step 4: a halted block does nothing with GATE 0. -/
theorem test_halted_gate :
    look (step (halted.withFetchWord 16 0x8000)) = some (57#8, none, true, 0x0004#16, []) := by decide

/-! ## The mapper (95 §3, §4) -/

/-- A tie rounds up (R83); the band edges of R98; a previous note outside the scale. -/
theorem test_filter_vectors :
    smoothedOf Config.reference 32 57 = 44 ∧ smoothedOf Config.reference 31 36 = 36 ∧
    smoothedOf Config.reference 32 36 = 37 ∧ smoothedOf Config.reference 480 48 = 48 ∧
    smoothedOf Config.reference 479 48 = 47 ∧ smoothedOf Config.reference 1023 255 = 125 := by decide
theorem test_reload_vectors :
    reloadOf Config.reference 36 = ⟨7427#16, false, false⟩ ∧ reloadOf Config.reference 57 = ⟨2208#16, false, false⟩ ∧
    reloadOf Config.reference 0 = ⟨59415#16, false, false⟩ ∧ reloadOf Config.reference 60 = ⟨1857#16, false, false⟩ := by
  decide
/-- The last note with raw 1 and the first that clamps low. -/
theorem test_reload_clamps_low :
    reloadOf Config.reference 202 = ⟨1#16, false, false⟩ ∧ reloadOf Config.reference 203 = ⟨1#16, false, true⟩ := by
  decide +kernel
/-- PRESCALER = 1: the last note that clamps high and the first that does not. -/
theorem test_reload_clamps_high :
    reloadOf clampCfg 34 = ⟨65535#16, true, false⟩ ∧ reloadOf clampCfg 35 = ⟨62948#16, false, false⟩ := by decide
/-- 95 P7 step 2: SAMPLE 0 from note 35 clamps high and sets CLAMP_HI. -/
theorem test_sample_clamps :
    look (exec (.sample 0#14) (writeNote 35#8 (State.resetUnder clampCfg true []))) =
      some (28#8, some 65535#16, true, 0x0018#16, [.setPeriod 65535#16]) := by decide

/-! ## The multiplexer and reset (95 §7, §8) -/

theorem test_iterate_polls :
    look (step (placed .iterate State.reset)) = some (57#8, none, false, 0x0000#16, [.setEnabled false]) := by decide
theorem test_iterate_line_low :
    look (step (placed .iterate (writeLine false State.reset))) =
      some (57#8, none, true, 0x0000#16, [.setEnabled true]) := by decide
theorem test_arrive_latches : lookLatch (step (placed (.arrive 100#14) State.reset)) = some (true, some 100#14) := by
  decide
theorem test_iterate_services :
    look (step (placed .iterate pending100)) =
      some (45#8, some 4416#16, false, 0x0008#16, [.setPeriod 4416#16, .setEnabled false]) := by decide
theorem test_iterate_rearms : lookLatch (step (placed .iterate pending100)) = some (false, none) := by decide
theorem test_overrun : look (step (placed (.arrive 200#14) pending100)) = some (57#8, none, true, 0x0002#16, []) := by
  decide
theorem test_overrun_keeps_first :
    lookLatch (step (placed (.arrive 200#14) pending100)) = some (true, some 100#14) := by decide
theorem test_reset_discards : lookLatch (step (placed .reset pending100)) = some (false, none) := by decide
theorem test_reset_clears_fault :
    look (step (placed .reset halted)) = some (57#8, none, true, 0x0000#16, []) := by decide
/-- 95 P8: CFG_ERR and ENABLE = 0 under an invalid configuration. -/
theorem test_reset_invalid :
    look (.next (State.resetUnder zeroSemitones true [])) = some (57#8, none, false, 0x0001#16, []) := by decide
theorem test_period_read :
    State.reset.readPeriod = .error .periodHasNoValue ∧ (writePeriod 2208#16 State.reset).readPeriod = .ok 2208#16 := by
  constructor <;> rfl

/-! ## The text form (30_encoding R70) -/

/-- `SAMPLE 32`, `GATE 1 ; on`, an empty line, `.word 0xC000` and `@arrive 100`. -/
theorem test_transcribe :
    transcribe Config.reference
      [['S', 'A', 'M', 'P', 'L', 'E', ' ', '3', '2'], ['G', 'A', 'T', 'E', ' ', '1', ' ', ';', ' ', 'o', 'n'], [],
       ['.', 'w', 'o', 'r', 'd', ' ', '0', 'x', 'C', '0', '0', '0'], ['@', 'a', 'r', 'r', 'i', 'v', 'e', ' ', '1', '0', '0']] =
      .ok [.inject 0x4020#16, .inject 0x8001#16, .inject 0xC000#16, .arrive 100#14] := by rfl
theorem test_transcribe_refuses_sample :
    transcribe Config.reference [['I', 'D', 'L', 'E'], ['S', 'A', 'M', 'P', 'L', 'E', ' ', '1', '0', '2', '4']] =
      .error (2, .sampleAboveMax) := by rfl
theorem test_transcribe_refuses_gate :
    transcribe Config.reference [['G', 'A', 'T', 'E', ' ', '2']] = .error (1, .gateNotBit) := by rfl
theorem test_transcribe_refuses_mnemonic :
    transcribe Config.reference [['i', 'd', 'l', 'e']] = .error (1, .unknownMnemonic) := by rfl

/-! ## Witnesses -/

theorem reference_valid : Config.reference.Valid := by decide

/-- The pending state meets the invariant. -/
theorem pending_inv : pending100.Inv where
  cfgErr_iff := by decide
  one_fault := by intro f g; cases f <;> cases g <;> decide
  period_iff := rfl
  latch_iff := rfl
  latch_fits := by intro v h; cases h; decide
  overrun_pending := by decide
  refused_start := by decide
  note_range := by decide
  no_sample_yet := by decide
  same_sample := by intro r h; cases h
  last_period := rfl
  last_enable := by decide

/-- After an overrun, with the first sample still pending (95 §7). -/
def overrun : State := raiseFault .overrun pending100

theorem overrun_inv : overrun.Inv where
  cfgErr_iff := by decide
  one_fault := by intro f g; cases f <;> cases g <;> decide
  period_iff := rfl
  latch_iff := rfl
  latch_fits := by intro v h; cases h; decide
  overrun_pending := by decide
  refused_start := by decide
  note_range := by decide
  no_sample_yet := by decide
  same_sample := by intro r h; cases h
  last_period := rfl
  last_enable := by decide

/-- The reset state with nothing pending and ENABLE last driven to 0. -/
def polled : State := acceptGate false State.reset

theorem polled_inv : polled.Inv where
  cfgErr_iff := by decide
  one_fault := by intro f g; cases f <;> cases g <;> decide
  period_iff := rfl
  latch_iff := rfl
  latch_fits := by intro v h; cases h
  overrun_pending := by decide
  refused_start := by decide
  note_range := by decide
  no_sample_yet := by decide
  same_sample := by intro r h; cases h
  last_period := rfl
  last_enable := by decide

/-- A state that has mapped a sample: SAMPLE 0 from reset (95 §6), PERIOD 4957. -/
def sampled : State := acceptSample ⟨43#8, 4957#16, false, false⟩ State.reset

theorem sampled_inv : sampled.Inv where
  cfgErr_iff := by decide
  one_fault := by intro f g; cases f <;> cases g <;> decide
  period_iff := rfl
  latch_iff := rfl
  latch_fits := by intro v h; cases h
  overrun_pending := by decide
  refused_start := by decide
  note_range := by decide
  no_sample_yet := by decide
  same_sample := by intro r h; cases h; decide
  last_period := rfl
  last_enable := by decide

/-- A running block with a valid configuration and samples at both ends of the range. -/
theorem running_reference : State.reset.halted = false ∧ State.reset.cfg.Valid ∧ State.reset.cfg.Fits 0#14 ∧
    State.reset.cfg.Fits 1023#14 := by decide

theorem witness_DecodeInvertsEncode :
    (Instr.sample 1023#14).WellFormed Config.reference ∧ (Instr.reserved 0x4400#16).WellFormed Config.reference := by decide
/-- Each kind of reserved word at both ends of its range, and the legal words beside them. -/
theorem witness_ReservedWordsRaiseRsvdEvt :
    State.reset.cfg.Valid ∧ State.reset.halted = false ∧
    decodeWord State.reset.cfg 0x0001#16 = .reserved 0x0001#16 ∧ decodeWord State.reset.cfg 0x3FFF#16 = .reserved 0x3FFF#16 ∧
    decodeWord State.reset.cfg 0x4400#16 = .reserved 0x4400#16 ∧ decodeWord State.reset.cfg 0x7FFF#16 = .reserved 0x7FFF#16 ∧
    decodeWord State.reset.cfg 0x8002#16 = .reserved 0x8002#16 ∧ decodeWord State.reset.cfg 0xBFFF#16 = .reserved 0xBFFF#16 ∧
    decodeWord State.reset.cfg 0xC000#16 = .reserved 0xC000#16 ∧ decodeWord State.reset.cfg 0xFFFF#16 = .reserved 0xFFFF#16 := by
  decide
theorem witness_StepRunsTheDecodedWord :
    (placed (.inject 0x4400#16) State.reset).schedule = [.inject 0x4400#16] ∧
    (Instr.sample 1023#14).WellFormed State.reset.cfg ∧
    (placed (.inject (encode (.sample 1023#14))) State.reset).schedule = [.inject (encode (.sample 1023#14))] := by decide
theorem witness_EmptyScheduleIsIdle : State.reset.schedule = [] := rfl
theorem witness_HaltedBlockIgnoresEvents :
    (placed .iterate halted).halted = true ∧ (placed .iterate halted).schedule = [.iterate] ∧
    (placed (.inject 0x4000#16) halted).schedule = [.inject 0x4000#16] ∧
    (placed (.arrive 0#14) halted).schedule = [.arrive 0#14] := by decide
theorem witness_SampleWritesTheExactPitchLaw :
    State.reset.halted = false ∧ State.reset.cfg.Valid ∧ State.reset.cfg.Fits 1023#14 := by decide
theorem witness_ReloadIsTheRoundedHalfPeriod : clampCfg.Valid := by decide
theorem witness_HalfPeriodIsNeverATie :
    Config.reference.Valid ∧ (Pitch.raw Config.reference 57 + 1 : ℤ) ≠ Pitch.raw Config.reference 57 :=
  ⟨reference_valid, by omega⟩
theorem witness_FilterIsTheRoundedAverage : 1 ≤ Config.reference.sampleRangeSize := by decide
theorem witness_FilterStaysInRange :
    Config.reference.Valid ∧ Config.reference.Fits 0#14 ∧
    (min Config.reference.scaleBottom Config.reference.refNote ≤ ((57#8).toNat : Int) ∧
      ((57#8).toNat : Int) ≤ max Config.reference.scaleTop Config.reference.refNote) := by decide
/-- The bounds 36 and 57 of a note 36 and a previous note 57. -/
theorem witness_FilterStaysInRange_bounds :
    (36 : ℤ) ≤ (57#8).toNat ∧ ((57#8).toNat : ℤ) ≤ 57 ∧ ((36 : ℤ) : ℚ) ≤ Pitch.quantize Config.reference (0#14).toNat ∧
    Pitch.quantize Config.reference (0#14).toNat ≤ ((57 : ℤ) : ℚ) := by
  refine ⟨by decide, by decide, ?_, ?_⟩ <;> norm_num [Pitch.quantize, Config.reference]
theorem witness_FilterIsMonotone :
    Config.reference.Valid ∧ List.Forall₂ (fun a b : SampleField => Config.reference.Fits a ∧ Config.reference.Fits b ∧ a.toNat ≤ b.toNat)
      [0#14, 31#14] [0#14, 1023#14] ∧ ((36 : Nat) : ℚ) ≤ Pitch.quantize Config.reference 0 + 3 / 4 := by
  refine ⟨reference_valid, .cons (by decide) (.cons (by decide) .nil), ?_⟩
  norm_num [Pitch.quantize, Config.reference]
theorem witness_HysteresisBandHoldsTheNote : Config.reference.Valid ∧ Config.reference.Fits 31#14 := by decide
theorem witness_SteadySampleMovesMonotonically : Config.reference.Valid ∧ Config.reference.Fits 0#14 := by decide
/-- From 57 the sample 0 has note 36, at distance 21 (95 P1). -/
theorem witness_SteadySampleSettles :
    let s : State := { State.reset with schedule := List.replicate 22 (.inject (sampleWord 0#14)) }
    s.halted = false ∧ s.cfg.Valid ∧ s.cfg.Fits 0#14 ∧ 1 ≤ 21 ∧
    |(s.smoothedNote.toNat : ℚ) - Pitch.quantize s.cfg (0#14).toNat| ≤ (21 : Nat) ∧
    s.schedule = List.replicate (21 + 1) (.inject (sampleWord 0#14)) ++ [] := by
  refine ⟨by decide, by decide, by decide, by decide, ?_, by rfl⟩
  have h : State.reset.smoothedNote.toNat = 57 := by decide
  simp only [h]
  norm_num [Pitch.quantize, State.reset, Config.reference]
theorem witness_ReloadFallsAsTheNoteRises : Config.reference.Valid ∧ (36 : ℤ) ≤ 37 := by decide
/-- The hypotheses of the statement expected to fail, at R100's counterexample. -/
theorem witness_ReloadStrictWhereUnclamped :
    Config.reference.Valid ∧ (143#8).toNat < (144#8).toNat ∧
    (reloadOf Config.reference (143#8).toNat).clampHi = false ∧ (reloadOf Config.reference (143#8).toNat).clampLo = false ∧
    (reloadOf Config.reference (144#8).toNat).clampHi = false ∧ (reloadOf Config.reference (144#8).toNat).clampLo = false := by
  decide +kernel
theorem witness_OctaveHalvesTheReload :
    Config.reference.Valid ∧ (reloadOf Config.reference 48).clampHi = false ∧
    (reloadOf Config.reference (48 + Config.reference.semitonesPerOctave)).clampLo = false := by decide
/-- Each side of each clamp; the last two notes clamp neither way. -/
theorem witness_ClampNeverWraps :
    (reloadOf clampCfg 34).clampHi = true ∧ (reloadOf clampCfg 35).clampHi = false ∧
    (reloadOf clampCfg 35).clampLo = false ∧ (reloadOf Config.reference 203).clampLo = true ∧
    (reloadOf Config.reference 202).clampHi = false ∧ (reloadOf Config.reference 202).clampLo = false := by decide +kernel
theorem witness_SampleIgnoresEnable : exec (.sample 0#14) State.reset = .next sampled := by rfl
theorem witness_SampleStopsOutsideItsDomain :
    State.reset.halted = false ∧ State.reset.cfg.Valid ∧ ¬ State.reset.cfg.Fits 1024#14 ∧
    ({ State.reset with cfg := zeroSemitones } : State).halted = false ∧ ¬ zeroSemitones.Valid := by decide
/-- The last reserved word of KIND 10, and the first. -/
theorem witness_GateWritesEnable :
    State.reset.halted = false ∧ kindField 0x8002#16 = 2 ∧ kindField 0xBFFF#16 = 2 ∧ (0x8002#16 : EventWord) ≠ 0x8000#16 ∧
    (0x8002#16 : EventWord) ≠ 0x8001#16 := by decide
theorem witness_PitchSurvivesMuting :
    exec (.gate false) State.reset = .next polled ∧ sampled.halted = false ∧
    (placed (.inject 0x8000#16) (placed (.inject 0x8001#16) sampled)).schedule = [.inject 0x8000#16, .inject 0x8001#16] :=
  ⟨rfl, by decide, rfl⟩
theorem witness_ReservedWordHasNoOtherEffect : sampled.halted = false := by decide
theorem witness_SampleAndGateCommute :
    State.reset.halted = false ∧ State.reset.cfg.Valid ∧ State.reset.cfg.Fits 0#14 := by decide
theorem witness_EventsWriteOnlyTheirRegisters :
    exec .idle State.reset = .next State.reset ∧ exec (.gate false) State.reset = .next polled ∧
    exec (.sample 0#14) State.reset = .next sampled ∧ exec (.reserved 0xC000#16) State.reset = .next halted :=
  ⟨rfl, rfl, rfl, rfl⟩
theorem witness_AgentStepsWriteOnlyTheirState :
    agentStep (.arrive 100#14) State.reset = .next pending100 ∧ agentStep .iterate State.reset = .next polled ∧
    agentStep (.line false) State.reset = .next (writeLine false State.reset) ∧
    agentStep (.inject 0x8000#16) State.reset = .next polled ∧ agentStep .reset polled = .next State.reset :=
  ⟨rfl, rfl, rfl, rfl, rfl⟩
theorem witness_TraceOnlyGrows :
    step (placed .iterate State.reset) = .next polled ∧ ∀ rest, (placed .iterate State.reset).schedule ≠ .reset :: rest :=
  ⟨rfl, by intro rest h; cases h⟩
theorem witness_ArrivalLatchesOrOverruns :
    let a := AgentStep.arrive 1023#14
    (placed a State.reset).schedule = [a] ∧ Config.reference.Fits 1023#14 ∧
    (placed a State.reset).halted = false ∧ (placed a State.reset).samplePending = false ∧
    (placed a pending100).halted = false ∧ (placed a pending100).samplePending = true ∧ (placed a halted).halted = true := by
  decide
theorem witness_TooWideSampleIsRefused :
    (placed (.arrive 1024#14) State.reset).schedule = [.arrive 1024#14] ∧ ¬ Config.reference.Fits 1024#14 ∧
    (placed (.arrive 1024#14) State.reset).halted = false ∧ (placed (.arrive 1024#14) State.reset).samplePending = false := by
  decide
theorem witness_IterationServicesThenPolls :
    pending100.Inv ∧ pending100.halted = false ∧ pending100.samplePending = true ∧ pending100.sampleLatch = some 100#14 ∧
    polled.Inv ∧ polled.halted = false ∧ polled.samplePending = false ∧ overrun.Inv ∧ overrun.halted = true :=
  ⟨pending_inv, by decide, rfl, rfl, polled_inv, by decide, rfl, overrun_inv, by decide⟩
theorem witness_EnableFollowsTheGateLine :
    (placed .iterate pending100).Inv ∧ (placed .iterate pending100).halted = false ∧
    (placed .iterate pending100).schedule = [.iterate] := ⟨inv_withSchedule pending_inv _, by decide, rfl⟩
theorem witness_PendingSampleIsServedOnce :
    (placed (.inject 0x8000#16) pending100).Inv ∧ pending100.sampleLatch = some 100#14 ∧
    step (placed (.inject 0x8000#16) pending100) = .next (acceptGate false pending100) ∧
    (∀ rest, (placed (.inject 0x8000#16) pending100).schedule ≠ .iterate :: rest) ∧
    (∀ rest, (placed (.inject 0x8000#16) pending100).schedule ≠ .reset :: rest) :=
  ⟨inv_withSchedule pending_inv _, rfl, rfl, (by intro r h; cases h), (by intro r h; cases h)⟩
theorem witness_MultiplexerEmitsOnlyValidWords :
    (placed (.inject 0xC000#16) pending100).Inv ∧
    step (placed (.inject 0xC000#16) pending100) = .next (raiseFault .rsvdEvt pending100) ∧
    pending100.rsvdEvt = false ∧ (raiseFault .rsvdEvt pending100).rsvdEvt = true := ⟨inv_withSchedule pending_inv _, rfl, rfl, rfl⟩
theorem witness_OnlyIterationsReadTheGateLine :
    (placed (.line false) State.reset).schedule = [.line false] ∧
    agentStep (.line false) State.reset = .next (writeLine false State.reset) ∧
    (writeLine false State.reset).gateLine ≠ State.reset.gateLine ∧
    agentStep .reset polled = .next State.reset ∧ agentStep (.inject 0x8000#16) State.reset = .next polled ∧
    agentStep (.arrive 100#14) State.reset = .next pending100 ∧ exec (.gate false) State.reset = .next polled :=
  ⟨rfl, rfl, by decide, rfl, rfl, rfl, rfl⟩
theorem witness_StatusBitsAreLiveCopies : ¬ zeroSemitones.Valid ∧ Config.reference.Valid := by decide
theorem witness_PeriodReadFaultsBeforeTheFirstSample :
    polled.Inv ∧ polled.periodValid = false ∧ sampled.Inv ∧ sampled.periodValid = true :=
  ⟨polled_inv, rfl, sampled_inv, rfl⟩
theorem witness_ResetLeavesTheListedValues :
    (placed .reset sampled).schedule = [.reset] ∧ 0 ≤ (placed .reset sampled).cfg.refNote ∧
    (placed .reset sampled).cfg.refNote ≤ 255 := by decide
theorem witness_OnlyResetClearsFaults :
    step (placed .reset halted) = .next State.reset ∧ (placed .reset halted).faultBit .rsvdEvt = true ∧
    State.reset.faultBit .rsvdEvt = false ∧ (placed .reset halted).cfg.Valid := ⟨rfl, rfl, rfl, by decide⟩
theorem witness_FaultsArePreciseAndSingle :
    (placed (.arrive 200#14) pending100).Inv ∧ (placed (.arrive 200#14) pending100).halted = false ∧
    step (placed (.arrive 200#14) pending100) = .next (raiseFault .overrun pending100) ∧
    (raiseFault .overrun pending100).halted = true := ⟨inv_withSchedule pending_inv _, by decide, rfl, by decide⟩
theorem witness_InvalidConfigurationNeverStarts : ¬ zeroSemitones.Valid := by decide
theorem witness_ConfigurationIsConstant : step (placed .iterate State.reset) = .next polled := rfl
theorem witness_StepKeepsTheInvariant :
    (placed .iterate polled).Inv ∧ step (placed .iterate polled) = .next (acceptGate false polled) := ⟨inv_withSchedule polled_inv _, rfl⟩
theorem witness_InvariantStatesDoNotStop :
    (placed (.arrive 1023#14) polled).Inv ∧
    ∀ v rest, (placed (.arrive 1023#14) polled).schedule = .arrive v :: rest → polled.cfg.Fits v :=
  ⟨inv_withSchedule polled_inv _, by intro v rest h; cases h; decide⟩
theorem witness_DutifulRunsNeverFault :
    let s : State := { pending100 with schedule := [.line false, .iterate, .arrive 1023#14, .iterate, .reset, .arrive 0#14] }
    s.Inv ∧ s.halted = false ∧ dutiesKept s.cfg s.samplePending s.schedule = true :=
  ⟨inv_withSchedule pending_inv _, by decide, by decide⟩
theorem witness_StepKeepsDutifulSafety :
    let s : State := { pending100 with schedule := [.iterate, .arrive 1023#14] }
    s.Inv ∧ s.halted = false ∧ dutiesKept s.cfg s.samplePending s.schedule = true :=
  ⟨inv_withSchedule pending_inv _, by decide, by decide⟩
theorem witness_PortsDriveTheOscillator :
    polled.Inv ∧ polled.enable = false ∧ sampled.Inv ∧ sampled.enable = true ∧ sampled.period = some 4957#16 ∧
    pending100.Inv ∧ pending100.enable = true ∧ pending100.periodValid = false :=
  ⟨polled_inv, rfl, sampled_inv, by decide, rfl, pending_inv, by decide, rfl⟩
/-- Operands at the ends of their ranges: 1023 and 1024 around SAMPLE_MAX, and the largest word. -/
theorem witness_AssembleFollowsTheTextForm :
    Config.reference.Valid ∧ 1023 ≤ Config.reference.sampleMax ∧ Config.reference.sampleMax < 1024 ∧ 65535 < 2 ^ 16 := by
  decide
/-- R67's 0xC000 and 0x0001, and 0xc000. -/
theorem witness_OperandsAreReadAsSpelled :
    ['C', '0', '0', '0'].map Char.toLower = List.replicate 0 '0' ++ Nat.toDigits 16 0xC000 ∧
    ['c', '0', '0', '0'].map Char.toLower = List.replicate 0 '0' ++ Nat.toDigits 16 0xC000 ∧
    ['0', '0', '0', '1'].map Char.toLower = List.replicate 3 '0' ++ Nat.toDigits 16 1 := by decide

end Sys2Proof.Tests
end

section
/-! The configuration through a step (00_scope R6, 60_exceptions R161): each part of a step keeps it. -/

namespace Sys2Proof.Machine

open Sys2Proof

/-- No event writes the configuration. -/
theorem exec_keeps_cfg {i : Instr} {s t : State} (h : exec i s = .next t) : t.cfg = s.cfg := by
  obtain ⟨_, rfl⟩ | ⟨_, ⟨_, rfl⟩ | ⟨v, _, _, _, rfl⟩ | ⟨a, _, rfl⟩ | ⟨w, _, rfl⟩⟩ := exec_next h
  · rfl
  · rfl
  · exact acceptSample_cfg _ s
  · exact acceptGate_cfg a s
  · exact raiseFault_cfg .rsvdEvt s

/-- Decoding the word on the event bus and running it keeps the configuration it is decoded under. -/
theorem coreStep_keeps_cfg {w : EventWord} {s t : State} (h : coreStep w s = .next t) : t.cfg = s.cfg :=
  exec_keeps_cfg h

theorem arrive_keeps_cfg {v : SampleField} {s t : State} (h : arrive v s = .next t) : t.cfg = s.cfg := by
  obtain ⟨_, rfl⟩ | ⟨_, _, rfl⟩ | ⟨_, _, _, rfl⟩ := arrive_next h
  · rfl
  · exact raiseFault_cfg .overrun s
  · exact latchSample_cfg v s

/-- An iteration is at most two core steps, the first after the latch is emptied. -/
theorem iteration_keeps_cfg {s t : State} (h : iteration s = .next t) : t.cfg = s.cfg := by
  obtain ⟨_, rfl⟩ | ⟨_, _, hpoll⟩ | ⟨v, m, _, _, _, hserve, hpoll⟩ := iteration_next h
  · rfl
  · exact coreStep_keeps_cfg hpoll
  · calc t.cfg = m.cfg := coreStep_keeps_cfg hpoll
      _ = (clearLatch s).cfg := coreStep_keeps_cfg hserve
      _ = s.cfg := clearLatch_cfg s

theorem agentStep_keeps_cfg {a : AgentStep} {s t : State} (h : agentStep a s = .next t) : t.cfg = s.cfg := by
  cases a with
  | arrive v => exact arrive_keeps_cfg h
  | line l => cases h; exact writeLine_cfg l s
  | iterate => exact iteration_keeps_cfg h
  | inject w => exact coreStep_keeps_cfg h
  | reset => cases h; exact resetUnder_cfg s.cfg s.gateLine s.schedule

/-- Settles O47: a step is nothing or one agent's step, and no agent's step writes the configuration. -/
theorem configurationIsConstant : Obligations.ConfigurationIsConstant := by
  intro s t h
  obtain ⟨_, rfl⟩ | ⟨a, rest, _, ha⟩ := step_next h
  · rfl
  · exact agentStep_keeps_cfg (s := { s with schedule := rest }) ha

end Sys2Proof.Machine
end

section
/-! What the multiplexer's two words decode to (42_event_mux R134), and everything an iteration can do,
from any state: later proofs about an iteration cite `iteration_cases` and open no core step. -/

namespace Sys2Proof.Machine

open Sys2Proof

theorem decodeWord_gateWord (c : Config) (a : Bool) : decodeWord c (gateWord a) = .gate a := by
  obtain ⟨hkind, hzero, hbit⟩ := Laws.EncodeFields.gate a
  simp only [encode] at hkind hzero hbit
  rw [decodeWord, if_neg (by simp [hkind]), if_neg (by simp [hkind]), if_pos hkind, if_pos hzero, hbit]

/-- A SAMPLE word decodes to its sample when that fits SAMPLE_BITS, and is reserved otherwise (R62, R67). -/
theorem decodeWord_sampleWord (c : Config) (v : SampleField) :
    decodeWord c (sampleWord v) = if c.Fits v then .sample v else .reserved (sampleWord v) := by
  obtain ⟨hkind, hvalue⟩ := Laws.EncodeFields.sample v
  simp only [encode] at hkind hvalue
  simp [decodeWord, hkind, hvalue]

/-- A poll of a running block is one GATE event with the line's normalised level. -/
theorem pollGate_of_running {s : State} (hr : s.halted = false) :
    pollGate s = .next (acceptGate (normalise s.cfg s.gateLine) s) := by
  rw [pollGate, coreStep, pollWord, decodeWord_gateWord, exec, execGate, unlessHalted_of_running hr]

/-- A poll of a halted block does nothing. -/
theorem pollGate_of_halted {s : State} (hh : s.halted = true) : pollGate s = .next s := by
  rw [pollGate, coreStep, pollWord, decodeWord_gateWord, exec, execGate, unlessHalted_of_halted hh]

/-- Everything the service of a latched sample can do: one SAMPLE event, or, for a sample that no
SAMPLE word carries, one reserved word. -/
theorem coreStep_serviceWord_next {v : SampleField} {s t : State} (hr : s.halted = false)
    (h : coreStep (serviceWord v) s = .next t) :
    (s.cfg.Valid ∧ s.cfg.Fits v ∧ t = acceptSample (mapSample s.cfg v s.smoothedNote) s) ∨
    (¬ s.cfg.Fits v ∧ t = raiseFault .rsvdEvt s) := by
  rw [coreStep, serviceWord, decodeWord_sampleWord] at h
  split at h
  · next hfit =>
    rw [exec, execSample, unlessHalted_of_running hr] at h
    split at h
    · cases h
    · next hvalid =>
      cases h
      exact .inl ⟨not_not.mp hvalid, hfit, rfl⟩
  · next hfit =>
    rw [exec, execReserved, unlessHalted_of_running hr] at h
    cases h
    exact .inr ⟨hfit, rfl⟩

/-- Everything an iteration can do when it answers a next state, with the effects of both its core steps
written out (R134): nothing while halted, a poll alone, a service and then a poll, or, for a latched
sample that no SAMPLE word carries (no run has one), RSVD_EVT. -/
theorem iteration_cases {s t : State} (h : iteration s = .next t) :
    (s.halted = true ∧ t = s) ∨
    (s.halted = false ∧ s.samplePending = false ∧ t = acceptGate (normalise s.cfg s.gateLine) s) ∨
    (∃ v, s.halted = false ∧ s.samplePending = true ∧ s.sampleLatch = some v ∧ s.cfg.Valid ∧ s.cfg.Fits v ∧
      t = acceptGate (normalise s.cfg s.gateLine)
        (acceptSample (mapSample s.cfg v s.smoothedNote) (clearLatch s))) ∨
    (∃ v, s.halted = false ∧ s.samplePending = true ∧ s.sampleLatch = some v ∧ ¬ s.cfg.Fits v ∧
      t = raiseFault .rsvdEvt (clearLatch s)) := by
  obtain hhalt | ⟨hr, hp, hpoll⟩ | ⟨v, m, hr, hp, hlatch, hserve, hpoll⟩ := iteration_next h
  · exact .inl hhalt
  · rw [pollGate_of_running hr] at hpoll
    cases hpoll
    exact .inr (.inl ⟨hr, hp, rfl⟩)
  · have hrc : (clearLatch s).halted = false := hr
    obtain ⟨hvalid, hfit, rfl⟩ | ⟨hfit, rfl⟩ := coreStep_serviceWord_next hrc hserve
    · rw [pollGate_of_running (by simpa using hr)] at hpoll
      cases hpoll
      exact .inr (.inr (.inl ⟨v, hr, hp, hlatch, hvalid, hfit, rfl⟩))
    · rw [pollGate_of_halted (raiseFault_halted _ _)] at hpoll
      cases hpoll
      exact .inr (.inr (.inr ⟨v, hr, hp, hlatch, hfit, rfl⟩))

end Sys2Proof.Machine
end

section
/-! What SMOOTHED_NOTE takes: REF_NOTE at reset (10_state R34), and from the filter a note between bounds of
its two inputs (40_frequency_mapper R85). -/

namespace Sys2Proof.Machine

open Sys2Proof

/-- A note register holds every number from 0 to 255 as it is (R22). -/
theorem toNat_ofInt_noteReg {z : Int} (h0 : 0 ≤ z) (h1 : z ≤ 255) : ((BitVec.ofInt 8 z).toNat : Int) = z := by
  rw [BitVec.toNat_ofInt]
  omega

/-- SMOOTHED_NOTE's reset value is REF_NOTE wherever REF_NOTE fits the register (R34). -/
theorem resetNote_toNat {c : Config} (h0 : 0 ≤ c.refNote) (h1 : c.refNote ≤ 255) :
    (c.resetNote.toNat : Int) = c.refNote := by
  rw [Config.resetNote, if_pos ⟨h0, h1⟩, toNat_ofInt_noteReg h0 h1]

/-- R85 over the integers: bounds of the previous note that also bound the quantized note, here times
SAMPLE_RANGE_SIZE, bound the filter's result. -/
theorem smoothedOf_between {c : Config} {s p lo hi : Int} (hR : 1 ≤ c.sampleRangeSize) (hlop : lo ≤ p) (hphi : p ≤ hi)
    (hlo : lo * c.sampleRangeSize ≤ s * (c.scaleTop - c.scaleBottom) + c.scaleBottom * c.sampleRangeSize)
    (hhi : s * (c.scaleTop - c.scaleBottom) + c.scaleBottom * c.sampleRangeSize ≤ hi * c.sampleRangeSize) :
    lo ≤ smoothedOf c s p ∧ smoothedOf c s p ≤ hi := by
  have hlopR : lo * c.sampleRangeSize ≤ p * c.sampleRangeSize := by gcongr
  have hphiR : p * c.sampleRangeSize ≤ hi * c.sampleRangeSize := by gcongr
  have hD : 0 < 2 * filterDen c := by simp only [filterDen]; omega
  unfold smoothedOf
  constructor
  · rw [Int.le_ediv_iff_mul_le hD]
    simp only [filterNum, filterDen]
    linarith
  · rw [← Int.lt_add_one_iff, Int.ediv_lt_iff_lt_mul hD]
    simp only [filterNum, filterDen]
    linarith

/-- Under a valid configuration the quantized note, times SAMPLE_RANGE_SIZE, lies in the scale (R81). -/
theorem quantized_in_scale {c : Config} {v : SampleField} (hc : c.Valid) (hv : c.Fits v) :
    c.scaleBottom * c.sampleRangeSize ≤
      v.toNat * (c.scaleTop - c.scaleBottom) + c.scaleBottom * c.sampleRangeSize ∧
    v.toNat * (c.scaleTop - c.scaleBottom) + c.scaleBottom * c.sampleRangeSize ≤ c.scaleTop * c.sampleRangeSize := by
  obtain ⟨_, _, hmax, ⟨_, hscale, _⟩, _⟩ := (valid_iff c).mp hc
  have hvR : (v.toNat : Int) ≤ c.sampleRangeSize := by
    simp only [Config.sampleMax] at hmax
    omega
  have hwidth : 0 ≤ c.scaleTop - c.scaleBottom := by omega
  have hprod : v.toNat * (c.scaleTop - c.scaleBottom) ≤ c.sampleRangeSize * (c.scaleTop - c.scaleBottom) := by gcongr
  constructor
  · have := mul_nonneg (Int.natCast_nonneg v.toNat) hwidth
    linarith
  · linarith

/-- From a note between the scale and REF_NOTE the filter gives one, and the register holds it exactly
(R22, R85). -/
theorem smoothNote_between {c : Config} {v : SampleField} {p : NoteReg} (hc : c.Valid) (hv : c.Fits v)
    (hlo : min c.scaleBottom c.refNote ≤ p.toNat) (hhi : (p.toNat : Int) ≤ max c.scaleTop c.refNote) :
    min c.scaleBottom c.refNote ≤ (smoothNote c v p).toNat ∧
    ((smoothNote c v p).toNat : Int) ≤ max c.scaleTop c.refNote := by
  obtain ⟨_, hR, _, ⟨hbot, _, htop⟩, ⟨href0, href1⟩, _⟩ := (valid_iff c).mp hc
  obtain ⟨hqlo, hqhi⟩ := quantized_in_scale hc hv
  have hmin : min c.scaleBottom c.refNote * c.sampleRangeSize ≤ c.scaleBottom * c.sampleRangeSize := by
    gcongr; exact min_le_left _ _
  have hmax : c.scaleTop * c.sampleRangeSize ≤ max c.scaleTop c.refNote * c.sampleRangeSize := by
    gcongr; exact le_max_left _ _
  have hbounds := smoothedOf_between hR hlo hhi (hmin.trans hqlo) (hqhi.trans hmax)
  have hfits : ((smoothNote c v p).toNat : Int) = smoothedOf c v.toNat p.toNat :=
    toNat_ofInt_noteReg (by omega) (by omega)
  rwa [hfits]

end Sys2Proof.Machine
end

section
/-! The invariant over the operations of a step. Each operation that a running block performs keeps it,
and a reset establishes it; a step is such operations in a row. -/

namespace Sys2Proof.Machine

open Sys2Proof

theorem faultBit_of_running {s : State} (hr : s.halted = false) (f : StickyFault) : s.faultBit f = false := by
  by_contra hf
  simp [(halted_iff_faultBit s).mpr ⟨f, by simpa using hf⟩] at hr

/-- A running block has no two fault bits set, having none. -/
theorem one_fault_of_running {s : State} (hr : s.halted = false) (f g : StickyFault)
    (hf : s.faultBit f = true) (_ : s.faultBit g = true) : f = g := by
  simp [faultBit_of_running hr f] at hf

/-- A fault raised in a running block is the only one (R157). -/
theorem one_fault_of_raiseFault {s : State} (hr : s.halted = false) (e f g : StickyFault)
    (hf : (raiseFault e s).faultBit f = true) (hg : (raiseFault e s).faultBit g = true) : f = g := by
  simp only [raiseFault_faultBit, faultBit_of_running hr, Bool.false_or, beq_iff_eq] at hf hg
  exact hf.symm.trans hg

theorem cfgErr_of_running {s : State} (hr : s.halted = false) : s.cfgErr = false :=
  faultBit_of_running hr .cfgErr

theorem overrun_of_running {s : State} (hr : s.halted = false) : s.overrun = false :=
  faultBit_of_running hr .overrun

@[simp] theorem writeLine_faultBit (l : Bool) (s : State) (f : StickyFault) :
    (writeLine l s).faultBit f = s.faultBit f := by cases f <;> rfl

/-- The gate line is no part of the invariant. -/
theorem inv_writeLine {s : State} (h : s.Inv) (l : Bool) : (writeLine l s).Inv :=
  { h with one_fault := by simpa only [writeLine_faultBit] using h.one_fault }

theorem inv_latchSample {s : State} {v : SampleField} (h : s.Inv) (hr : s.halted = false) (hv : s.cfg.Fits v) :
    (latchSample v s).Inv :=
  { h with
    one_fault := one_fault_of_running (s := latchSample v s) hr
    latch_iff := rfl
    latch_fits := fun u hu => by cases hu; exact hv
    overrun_pending := fun _ => rfl
    refused_start := fun he => by simp [cfgErr_of_running hr] at he }

theorem inv_clearLatch {s : State} (h : s.Inv) (hr : s.halted = false) : (clearLatch s).Inv :=
  { h with
    one_fault := one_fault_of_running (s := clearLatch s) hr
    latch_iff := rfl
    latch_fits := fun u hu => by cases hu
    overrun_pending := fun ho => by simp [overrun_of_running hr] at ho
    refused_start := fun he => by simp [cfgErr_of_running hr] at he }

/-- A second arrival leaves the first sample pending (R132). -/
theorem inv_raiseOverrun {s : State} (h : s.Inv) (hr : s.halted = false) (hp : s.samplePending = true) :
    (raiseFault .overrun s).Inv :=
  { h with
    one_fault := one_fault_of_raiseFault hr .overrun
    overrun_pending := fun _ => hp }

theorem inv_raiseRsvdEvt {s : State} (h : s.Inv) (hr : s.halted = false) : (raiseFault .rsvdEvt s).Inv :=
  { h with one_fault := one_fault_of_raiseFault hr .rsvdEvt }

/-- The trace's new last SetEnabled is the value ENABLE takes (R31). -/
theorem inv_acceptGate {s : State} (h : s.Inv) (hr : s.halted = false) (a : Bool) : (acceptGate a s).Inv :=
  { h with
    one_fault := one_fault_of_running (s := acceptGate a s) hr
    refused_start := fun he => by simp [cfgErr_of_running hr] at he
    last_period := by simpa using h.last_period
    last_enable := by simp }

/-- The note, PERIOD, the clamp flags and the trace's new last SetPeriod are all of the mapped sample
(R52, R31), and the note stays in its range by R85. -/
theorem inv_acceptSample {s : State} {v : SampleField} (h : s.Inv) (hr : s.halted = false) (hv : s.cfg.Fits v) :
    (acceptSample (mapSample s.cfg v s.smoothedNote) s).Inv :=
  { h with
    one_fault := one_fault_of_running (s := acceptSample _ s) hr
    period_iff := rfl
    refused_start := fun he => by simp [cfgErr_of_running hr] at he
    note_range := fun hc => by
      obtain ⟨hlo, hhi⟩ := h.note_range hc
      exact smoothNote_between hc hv hlo hhi
    no_sample_yet := fun hp => by simp at hp
    same_sample := fun r hr => by cases hr; rfl
    last_period := by simp
    last_enable := by simpa using h.last_enable }

/-- Settles O48: reset sets CFG_ERR and ENABLE by the configuration's validity, and everything else as
if nothing had happened yet. -/
theorem resetMeetsTheInvariant : Obligations.ResetMeetsTheInvariant := fun c l sch => {
  cfgErr_iff := by simp
  one_fault := fun f g => by cases f <;> cases g <;> simp [State.faultBit]
  period_iff := rfl
  latch_iff := rfl
  latch_fits := fun v hv => by cases hv
  overrun_pending := fun ho => by simp at ho
  refused_start := fun he => by simpa [Config.resetEnable] using he
  note_range := fun hc => by
    obtain ⟨_, _, _, _, ⟨href0, href1⟩, _⟩ := (valid_iff c).mp hc
    have hnote : ((c.resetNote).toNat : Int) = c.refNote := resetNote_toNat href0 href1
    simp [hnote]
  no_sample_yet := fun _ => ⟨rfl, rfl, rfl⟩
  same_sample := fun r hr => by cases hr
  last_period := rfl
  last_enable := rfl }

theorem exec_keeps_inv {i : Instr} {s t : State} (hi : s.Inv) (h : exec i s = .next t) : t.Inv := by
  obtain ⟨_, rfl⟩ | ⟨hr, ⟨_, rfl⟩ | ⟨v, _, _, hv, rfl⟩ | ⟨a, _, rfl⟩ | ⟨w, _, rfl⟩⟩ := exec_next h
  · exact hi
  · exact hi
  · exact inv_acceptSample hi hr hv
  · exact inv_acceptGate hi hr a
  · exact inv_raiseRsvdEvt hi hr

theorem arrive_keeps_inv {v : SampleField} {s t : State} (hi : s.Inv) (h : arrive v s = .next t) : t.Inv := by
  obtain ⟨_, rfl⟩ | ⟨hr, hp, rfl⟩ | ⟨hr, _, hv, rfl⟩ := arrive_next h
  · exact hi
  · exact inv_raiseOverrun hi hr hp
  · exact inv_latchSample hi hr hv

/-- The latch is emptied before the sample is served, and the invariant holds between the two. -/
theorem iteration_keeps_inv {s t : State} (hi : s.Inv) (h : iteration s = .next t) : t.Inv := by
  obtain ⟨_, rfl⟩ | ⟨_, _, hpoll⟩ | ⟨v, m, hr, _, _, hserve, hpoll⟩ := iteration_next h
  · exact hi
  · exact exec_keeps_inv hi hpoll
  · exact exec_keeps_inv (exec_keeps_inv (inv_clearLatch hi hr) hserve) hpoll

theorem agentStep_keeps_inv {a : AgentStep} {s t : State} (hi : s.Inv) (h : agentStep a s = .next t) : t.Inv := by
  cases a with
  | arrive v => exact arrive_keeps_inv hi h
  | line l => cases h; exact inv_writeLine hi l
  | iterate => exact iteration_keeps_inv hi h
  | inject w => exact exec_keeps_inv hi h
  | reset => cases h; exact resetMeetsTheInvariant s.cfg s.gateLine s.schedule

/-- Settles O49: a step is nothing or one agent's step, and each agent's step keeps the invariant. -/
theorem stepKeepsTheInvariant : Obligations.StepKeepsTheInvariant := by
  intro s t hi h
  obtain ⟨_, rfl⟩ | ⟨a, rest, _, ha⟩ := step_next h
  · exact hi
  · exact agentStep_keeps_inv (inv_withSchedule hi rest) ha

end Sys2Proof.Machine
end

section
/-! The frames of the events and of the agents' steps (10_state R35), and how a step extends the trace
(R31). -/

namespace Sys2Proof.Machine

open Sys2Proof

/-- Settles O31: an event does nothing, or performs the one operation of its row, whose fields are known. -/
theorem eventsWriteOnlyTheirRegisters : Obligations.EventsWriteOnlyTheirRegisters := by
  intro i s t h
  obtain ⟨_, rfl⟩ | ⟨_, ⟨rfl, rfl⟩ | ⟨v, rfl, _, _, rfl⟩ | ⟨a, rfl, rfl⟩ | ⟨w, rfl, rfl⟩⟩ := exec_next h
  · simp
  · simp
  · simp
  · simp
  · simp

/-- What an iteration leaves unchanged: everything but the pitch state, ENABLE, RSVD_EVT, the latch and
the trace (R35). -/
theorem iteration_frame {s t : State} (h : iteration s = .next t) :
    t.cfg = s.cfg ∧ t.cfgErr = s.cfgErr ∧ t.overrun = s.overrun ∧ t.gateLine = s.gateLine ∧
    t.schedule = s.schedule := by
  obtain ⟨_, rfl⟩ | ⟨_, _, rfl⟩ | ⟨v, _, _, _, _, _, rfl⟩ | ⟨v, _, _, _, _, rfl⟩ := iteration_cases h
  · simp
  · simp
  · simp
  · simp

/-- An arrival changes only OVERRUN, SAMPLE_PENDING and SAMPLE_LATCH (R131, R132). -/
theorem arrive_frame {v : SampleField} {s t : State} (h : arrive v s = .next t) :
    t = { s with overrun := t.overrun, samplePending := t.samplePending, sampleLatch := t.sampleLatch } := by
  obtain ⟨_, rfl⟩ | ⟨_, _, rfl⟩ | ⟨_, _, _, rfl⟩ := arrive_next h <;> rfl

/-- Settles O32, agent by agent, each from the frame of its step. -/
theorem agentStepsWriteOnlyTheirState : Obligations.AgentStepsWriteOnlyTheirState := by
  intro a s t h
  cases a with
  | arrive v =>
    have hframe := arrive_frame h
    rw [hframe]
    simp
  | line l =>
    cases h
    simp [writeLine]
  | iterate =>
    obtain ⟨hcfg, hcfgErr, hoverrun, hline, hsch⟩ := iteration_frame h
    simp [hcfg, hcfgErr, hoverrun, hline, hsch]
  | inject w =>
    obtain ⟨hcfg, hcfgErr, hoverrun, hpending, hlatch, hline, hsch, -⟩ := eventsWriteOnlyTheirRegisters _ s t h
    simp [hcfg, hcfgErr, hoverrun, hpending, hlatch, hline, hsch]
  | reset =>
    cases h
    simp [resetBlock_eq]

/-- An event appends at most the one entry of its kind to the trace (R31). -/
theorem exec_trace {i : Instr} {s t : State} (h : exec i s = .next t) :
    t.trace = s.trace ∨ (∃ r, t.trace = s.trace ++ [.setPeriod r]) ∨ (∃ b, t.trace = s.trace ++ [.setEnabled b]) := by
  obtain ⟨_, rfl⟩ | ⟨_, ⟨_, rfl⟩ | ⟨v, _, _, _, rfl⟩ | ⟨a, _, rfl⟩ | ⟨w, _, rfl⟩⟩ := exec_next h
  · exact .inl rfl
  · exact .inl rfl
  · exact .inr (.inl ⟨_, acceptSample_trace _ s⟩)
  · exact .inr (.inr ⟨a, acceptGate_trace a s⟩)
  · exact .inl (raiseFault_trace .rsvdEvt s)

/-- An iteration appends the SetPeriod of its service, if any, and then the SetEnabled of its poll (R134). -/
theorem iteration_trace {s t : State} (h : iteration s = .next t) :
    t.trace = s.trace ∨ (∃ b, t.trace = s.trace ++ [.setEnabled b]) ∨
    (∃ r b, t.trace = s.trace ++ [.setPeriod r, .setEnabled b]) := by
  obtain ⟨_, rfl⟩ | ⟨_, _, rfl⟩ | ⟨v, _, _, _, _, _, rfl⟩ | ⟨v, _, _, _, _, rfl⟩ := iteration_cases h
  · exact .inl rfl
  · exact .inr (.inl ⟨_, acceptGate_trace _ s⟩)
  · exact .inr (.inr ⟨(mapSample s.cfg v s.smoothedNote).reload, normalise s.cfg s.gateLine, by simp⟩)
  · exact .inl (by simp)

/-- Settles O33: an injection is one event, an iteration at most a service and a poll, and the other
agents but reset leave the trace. -/
theorem traceOnlyGrows : Obligations.TraceOnlyGrows := by
  intro s t h hreset
  obtain ⟨_, rfl⟩ | ⟨a, rest, hsch, ha⟩ := step_next h
  · exact .inl rfl
  · cases a with
    | arrive v => rw [arrive_frame ha]; exact .inl rfl
    | line l => cases ha; exact .inl rfl
    | iterate =>
      obtain hsame | hgate | hboth := iteration_trace ha
      · exact .inl hsame
      · exact .inr (.inr (.inl hgate))
      · exact .inr (.inr (.inr hboth))
    | inject w =>
      obtain hsame | hperiod | hgate := exec_trace ha
      · exact .inl hsame
      · exact .inr (.inl hperiod)
      · exact .inr (.inr (.inl hgate))
    | reset => exact absurd hsch (hreset rest)

end Sys2Proof.Machine
end

section
/-! STATUS, the read of PERIOD, and what reset leaves (10_state R23, R30, R34). -/

namespace Sys2Proof.Machine

open Sys2Proof

/-- A bit placed in STATUS shows at its position and nowhere else. -/
theorem getLsbD_statusBit (b : Bool) {i : Nat} (hi : i < 16) (j : Nat) :
    (statusBit b i).getLsbD j = (decide (j = i) && b) := by
  simp only [statusBit, BitVec.getLsbD_shiftLeft, BitVec.getLsbD_setWidth, BitVec.getLsbD_ofBool]
  obtain hlt | rfl | hgt := lt_trichotomy j i
  · simp [hlt, hlt.ne]
  · simp [hi]
  · simp [hgt.ne', Nat.sub_ne_zero_of_lt hgt]

/-- Every bit of STATUS at once: bit j is the state bit that R30 places there. -/
theorem getLsbD_status (s : State) (j : Nat) :
    s.status.getLsbD j = (decide (j = 0) && s.cfgErr || decide (j = 1) && s.overrun || decide (j = 2) && s.rsvdEvt ||
      decide (j = 3) && s.periodValid || decide (j = 4) && s.clampHi || decide (j = 5) && s.clampLo) := by
  simp [State.status, getLsbD_statusBit]

/-- Right after a reset STATUS shows CFG_ERR alone (R30, R34). -/
theorem resetUnder_status (c : Config) (l : Bool) (sch : List AgentStep) :
    (State.resetUnder c l sch).status = if c.Valid then 0x0000#16 else 0x0001#16 := by
  simp only [State.status, resetUnder_cfgErr, resetUnder_overrun, resetUnder_rsvdEvt, resetUnder_periodValid,
    resetUnder_clampHi, resetUnder_clampLo, Config.Valid]
  cases c.valid <;> decide

/-- Settles O41: the first part is `getLsbD_status` at each position, the second the reset value. -/
theorem statusBitsAreLiveCopies : Obligations.StatusBitsAreLiveCopies := by
  refine ⟨fun s => ?_, resetUnder_status⟩
  simp only [getLsbD_status]
  refine ⟨by simp, by simp, by simp, by simp, by simp, by simp, fun i hi => ?_⟩
  have hne : i ≠ 0 ∧ i ≠ 1 ∧ i ≠ 2 ∧ i ≠ 3 ∧ i ≠ 4 ∧ i ≠ 5 := by omega
  simp [hne]

theorem readPeriod_of_not_valid {s : State} (h : s.periodValid = false) :
    s.readPeriod = .error .periodHasNoValue := by
  simp [State.readPeriod, h]

theorem readPeriod_of_valid {s : State} {r : Reload} (h : s.periodValid = true) (hr : s.period = some r) :
    s.readPeriod = .ok r := by
  simp [State.readPeriod, h, hr]

/-- Settles O42: by the invariant PERIOD holds a value exactly while PERIOD_VALID = 1. -/
theorem periodReadFaultsBeforeTheFirstSample : Obligations.PeriodReadFaultsBeforeTheFirstSample := by
  intro s hi
  refine ⟨readPeriod_of_not_valid, fun hv => ?_⟩
  obtain ⟨r, hr⟩ := Option.isSome_iff_exists.mp (hi.period_iff.trans hv)
  exact ⟨r, hr, readPeriod_of_valid hv hr⟩

/-- Settles O43: a reset step answers `State.resetUnder` of the machine's own configuration. -/
theorem resetLeavesTheListedValues : Obligations.ResetLeavesTheListedValues := by
  intro s rest hsch
  refine ⟨State.resetUnder s.cfg s.gateLine rest, step_of_schedule hsch, resetNote_toNat, ?_⟩
  simp [Config.resetEnable]

end Sys2Proof.Machine
end

section
/-! The arrival of a sample that SAMPLE_DATA is too narrow for (20_memory R41; log 10). -/

namespace Sys2Proof.Machine

open Sys2Proof

/-- `arrive` reaches its refusal last: past HALTED (R133), a pending sample (R132) and the width (R41). -/
theorem arrive_of_not_fits {v : SampleField} {s : State} (hr : s.halted = false) (hp : s.samplePending = false)
    (hv : ¬ s.cfg.Fits v) : arrive v s = .refused .sampleDataTooWide := by
  simp [arrive, hr, hp, hv]

/-- Settles O35: the step is the arrival, and taking it off the schedule changes nothing the arrival
reads. -/
theorem tooWideSampleIsRefused : Obligations.TooWideSampleIsRefused := by
  intro s v rest hsch hv hr hp
  calc step s = arrive v { s with schedule := rest } := step_of_schedule hsch
    _ = .refused .sampleDataTooWide := arrive_of_not_fits hr hp hv

end Sys2Proof.Machine
end

section
/-! An event word by its value and its fields (30_encoding R61 to R65). -/

namespace Sys2Proof.Machine

open Sys2Proof

theorem kindField_toNat (w : EventWord) : (kindField w).toNat = w.toNat / 0x4000 := by
  simp only [kindField, BitVec.extractLsb'_toNat, Nat.shiftRight_eq_div_pow]
  omega

theorem payloadField_toNat (w : EventWord) : (payloadField w).toNat = w.toNat % 0x4000 := by
  simp [payloadField]

theorem gateZeroField_toNat (w : EventWord) : (gateZeroField w).toNat = w.toNat / 2 % 0x2000 := by
  simp [gateZeroField, Nat.shiftRight_eq_div_pow]

/-- The two fields of R61 together are the whole word. -/
theorem toNat_eq_kind_add_payload (w : EventWord) :
    w.toNat = 0x4000 * (kindField w).toNat + (payloadField w).toNat := by
  rw [kindField_toNat, payloadField_toNat, Nat.div_add_mod]

theorem sampleWord_toNat (v : SampleField) : (sampleWord v).toNat = 0x4000 + v.toNat := by
  obtain ⟨hkind, hvalue⟩ := Laws.EncodeFields.sample v
  simp only [encode] at hkind hvalue
  rw [toNat_eq_kind_add_payload, hkind, hvalue]
  rfl

theorem gateWord_toNat (a : Bool) : (gateWord a).toNat = 0x8000 + a.toNat := by
  cases a <;> rfl

/-- A word of KIND 01 is the SAMPLE word of its VALUE field (R62). -/
theorem eq_sampleWord_iff (w : EventWord) : w = sampleWord (payloadField w) ↔ kindField w = 1 := by
  have hfields := toNat_eq_kind_add_payload w
  simp only [← BitVec.toNat_inj, sampleWord_toNat, BitVec.reduceToNat]
  omega

/-- A word of KIND 10 whose bits 13:1 are zero is the GATE word of its bit 0 (R63). -/
theorem eq_gateWord_iff (w : EventWord) :
    w = gateWord (w.getLsbD 0) ↔ kindField w = 2 ∧ gateZeroField w = 0 := by
  have hbit : (w.getLsbD 0).toNat = w.toNat % 2 := by
    rw [BitVec.getLsbD, Nat.testBit_zero]
    rcases Nat.mod_two_eq_zero_or_one w.toNat with h | h <;> simp [h]
  simp only [← BitVec.toNat_inj, gateWord_toNat, kindField_toNat, gateZeroField_toNat, hbit, BitVec.reduceToNat]
  omega

end Sys2Proof.Machine
end

section
/-! Decoding and encoding are inverse to each other (30_encoding R60 to R67). Later proofs cite
`decodeWord_eq_iff` and open `decodeWord` no more. -/

namespace Sys2Proof.Machine

open Sys2Proof

theorem wellFormed_sample (c : Config) (v : SampleField) : (Instr.sample v).WellFormed c ↔ c.Fits v :=
  decide_eq_true_iff

theorem wellFormed_reserved (c : Config) (w : EventWord) :
    (Instr.reserved w).WellFormed c ↔ c.ReservedWord w := decide_eq_true_iff

/-- Everything a word can decode to (R66): the event of its form, or itself as reserved (R67). -/
theorem decodeWord_cases (c : Config) (w : EventWord) :
    (kindField w = 0 ∧ payloadField w = 0 ∧ decodeWord c w = .idle) ∨
    (kindField w = 1 ∧ c.Fits (payloadField w) ∧ decodeWord c w = .sample (payloadField w)) ∨
    (kindField w = 2 ∧ gateZeroField w = 0 ∧ decodeWord c w = .gate (w.getLsbD 0)) ∨
    (c.ReservedWord w ∧ decodeWord c w = .reserved w) := by
  unfold decodeWord
  split_ifs with h0 hp h1 hf h2 hz
  · exact .inl ⟨h0, hp, rfl⟩
  · exact .inr (.inr (.inr ⟨.inr (.inl ⟨h0, hp⟩), rfl⟩))
  · exact .inr (.inl ⟨h1, hf, rfl⟩)
  · exact .inr (.inr (.inr ⟨.inr (.inr (.inl ⟨h1, hf⟩)), rfl⟩))
  · exact .inr (.inr (.inl ⟨h2, hz, rfl⟩))
  · exact .inr (.inr (.inr ⟨.inr (.inr (.inr ⟨h2, hz⟩)), rfl⟩))
  · exact .inr (.inr (.inr ⟨.inl (by bv_omega), rfl⟩))

/-- None of R67's four kinds of word has a form of R66's table. -/
theorem decodeWord_of_reservedWord {c : Config} {w : EventWord} (h : c.ReservedWord w) :
    decodeWord c w = .reserved w := by
  obtain hk | ⟨hk, hp⟩ | ⟨hk, hf⟩ | ⟨hk, hz⟩ := h
  · simp [decodeWord, hk]
  · simpa [decodeWord, hk] using hp
  · simp [decodeWord, hk, hf]
  · simpa [decodeWord, hk] using hz

/-- Settles O1, instruction by instruction: well-formedness is what each form's decoding tests. -/
theorem decodeInvertsEncode : Obligations.DecodeInvertsEncode := by
  intro c i hi
  cases i with
  | idle => rfl
  | sample v => rw [encode, decodeWord_sampleWord, if_pos ((wellFormed_sample c v).mp hi)]
  | gate a => exact decodeWord_gateWord c a
  | reserved w => exact decodeWord_of_reservedWord ((wellFormed_reserved c w).mp hi)

/-- Settles O2: the fields that select a form are all of the word but its operand. -/
theorem encodeInvertsDecode : Obligations.EncodeInvertsDecode := by
  intro c w
  obtain ⟨hk, hp, hd⟩ | ⟨hk, _, hd⟩ | ⟨hk, hz, hd⟩ | ⟨_, hd⟩ := decodeWord_cases c w
  · rw [hd, encode, ← BitVec.toNat_inj, toNat_eq_kind_add_payload w, hk, hp]
    rfl
  · rw [hd, encode, ← (eq_sampleWord_iff w).mpr hk]
  · rw [hd, encode, ← (eq_gateWord_iff w).mpr ⟨hk, hz⟩]
  · rw [hd, encode]

/-- Settles O3: in each case of the decoding the test it passed is the term's well-formedness. -/
theorem decodeYieldsWellFormed : Obligations.DecodeYieldsWellFormed := by
  intro c w
  obtain ⟨_, _, hd⟩ | ⟨_, hf, hd⟩ | ⟨_, _, hd⟩ | ⟨hr, hd⟩ := decodeWord_cases c w
  · rw [hd]; rfl
  · rw [hd]; exact (wellFormed_sample c _).mpr hf
  · rw [hd]; rfl
  · rw [hd]; exact (wellFormed_reserved c w).mpr hr

/-- A word decodes to an instruction exactly when it is the word of that instruction, well-formed. -/
theorem decodeWord_eq_iff (c : Config) (w : EventWord) (i : Instr) :
    decodeWord c w = i ↔ i.WellFormed c ∧ w = encode i := by
  constructor
  · rintro rfl
    exact ⟨decodeYieldsWellFormed c w, (encodeInvertsDecode c w).symm⟩
  · rintro ⟨hi, rfl⟩
    exact decodeInvertsEncode c i hi

end Sys2Proof.Machine
end

section
/-! Decoding by word values, by the match and mask table, and the reserved words (30_encoding R62 to R67). -/

namespace Sys2Proof.Machine

open Sys2Proof

theorem decodeWord_eq_idle_iff (c : Config) (w : EventWord) : decodeWord c w = .idle ↔ w = 0x0000#16 :=
  (decodeWord_eq_iff c w .idle).trans (and_iff_right rfl)

theorem decodeWord_eq_sample_iff (c : Config) (w : EventWord) (v : SampleField) :
    decodeWord c w = .sample v ↔ c.Fits v ∧ w = sampleWord v :=
  (decodeWord_eq_iff c w (.sample v)).trans (and_congr_left' (wellFormed_sample c v))

theorem decodeWord_eq_gate_iff (c : Config) (w : EventWord) (a : Bool) :
    decodeWord c w = .gate a ↔ w = gateWord a :=
  (decodeWord_eq_iff c w (.gate a)).trans (and_iff_right rfl)

theorem decodeWord_eq_reserved_iff (c : Config) (w : EventWord) :
    decodeWord c w = .reserved w ↔ c.ReservedWord w :=
  (decodeWord_eq_iff c w (.reserved w)).trans ((and_iff_left rfl).trans (wellFormed_reserved c w))

/-- Settles O4: each form's word, by its value. -/
theorem decodeByWordValue : Obligations.DecodeByWordValue := by
  intro c w
  refine ⟨?_, fun v => ?_, fun a => ?_⟩
  · rw [decodeWord_eq_idle_iff, ← BitVec.toNat_inj]
    rfl
  · rw [decodeWord_eq_sample_iff, ← BitVec.toNat_inj, sampleWord_toNat, and_comm]
    rfl
  · rw [decodeWord_eq_gate_iff, ← BitVec.toNat_inj, gateWord_toNat, Bool.toNat, Bool.cond_eq_ite]

/-- The words of IDLE's row: its mask is every bit. -/
theorem idleRow_matches_iff (w : EventWord) : idleRow.Matches w ↔ w = 0x0000#16 := by
  have hmask : w &&& 0xFFFF#16 = w := BitVec.and_allOnes
  rw [FormRow.Matches, idleRow, hmask]

/-- The mask of SAMPLE's row is KIND and the VALUE bits from SAMPLE_BITS up (R66). -/
theorem getLsbD_sampleRow_mask (c : Config) {i : Nat} (hi : i < 16) :
    (sampleRow c).mask.getLsbD i = decide (14 ≤ i ∨ c.sampleBits.toNat ≤ i) := by
  have hkind : (0xC000#16).getLsbD i = decide (14 ≤ i) := by interval_cases i <;> rfl
  have hvalue : (0x3FFF#16).getLsbD i = decide (i < 14) := by interval_cases i <;> rfl
  have hfit : (BitVec.ofNat 16 (c.sampleCount - 1)).getLsbD i = decide (i < c.sampleBits.toNat) := by
    rw [BitVec.getLsbD_ofNat, Config.sampleCount, Nat.testBit_two_pow_sub_one]
    simp [hi]
  rw [sampleRow, BitVec.getLsbD_or, BitVec.getLsbD_and, BitVec.getLsbD_not, hkind, hvalue, hfit]
  by_cases h14 : 14 ≤ i
  · simp [h14, hi]
  · simp [h14, hi, Nat.lt_of_not_le h14, ← decide_not]

/-- A sample fits SAMPLE_BITS exactly when its bits from there up are zero (R62). -/
theorem fits_iff_getLsbD (c : Config) (v : SampleField) :
    c.Fits v ↔ ∀ i, c.sampleBits.toNat ≤ i → v.getLsbD i = false :=
  ⟨fun h _ hi => Nat.testBit_lt_two_pow (h.trans_le (Nat.pow_le_pow_right two_pos hi)),
    Nat.lt_pow_two_of_testBit _⟩

/-- SAMPLE's row takes only words of KIND 01 whose VALUE fits. -/
theorem fits_of_sampleRow_matches {c : Config} {w : EventWord} (h : (sampleRow c).Matches w) :
    kindField w = 1 ∧ c.Fits (payloadField w) := by
  have hbit : ∀ i < 16, 14 ≤ i ∨ c.sampleBits.toNat ≤ i → w.getLsbD i = (0x4000#16).getLsbD i := by
    intro i hi hmask
    rw [← show w &&& (sampleRow c).mask = 0x4000#16 from h, BitVec.getLsbD_and, getLsbD_sampleRow_mask c hi,
      decide_eq_true hmask, Bool.and_true]
  constructor
  · refine BitVec.eq_of_getLsbD_eq fun i hi => ?_
    rw [kindField, BitVec.getLsbD_extractLsb', decide_eq_true hi, Bool.true_and, hbit _ (by omega) (.inl (by omega))]
    interval_cases i <;> rfl
  · refine (fits_iff_getLsbD c _).mpr fun i hi => ?_
    rw [payloadField, BitVec.getLsbD_extractLsb', zero_add]
    by_cases h14 : i < 14
    · rw [hbit i (by omega) (.inr hi)]
      interval_cases i <;> rfl
    · simp [h14]

/-- SAMPLE's row takes the SAMPLE word of every value that fits. -/
theorem sampleRow_matches_sampleWord {c : Config} {v : SampleField} (h : c.Fits v) :
    (sampleRow c).Matches (sampleWord v) := by
  refine BitVec.eq_of_getLsbD_eq fun i hi => ?_
  have hpattern : (0x4000#16).getLsbD i = decide (i = 14) := by interval_cases i <;> rfl
  rw [BitVec.getLsbD_and, getLsbD_sampleRow_mask c hi, sampleWord, BitVec.getLsbD_or, sampleRow, hpattern,
    BitVec.getLsbD_setWidth]
  by_cases hmask : 14 ≤ i ∨ c.sampleBits.toNat ≤ i
  · have hzero : v.getLsbD i = false :=
      hmask.elim (BitVec.getLsbD_of_ge v i) ((fits_iff_getLsbD c v).mp h i)
    rw [decide_eq_true hmask, hzero]
    simp
  · have hne : i ≠ 14 := by omega
    rw [decide_eq_false hmask]
    simp [hne]

theorem sampleRow_matches_iff (c : Config) (w : EventWord) :
    (sampleRow c).Matches w ↔ c.Fits (payloadField w) ∧ w = sampleWord (payloadField w) := by
  constructor
  · intro h
    obtain ⟨hkind, hfit⟩ := fits_of_sampleRow_matches h
    exact ⟨hfit, (eq_sampleWord_iff w).mpr hkind⟩
  · rintro ⟨hfit, hw⟩
    rw [hw]
    exact sampleRow_matches_sampleWord hfit

/-- The words of GATE's row: its mask is every bit but bit 0. -/
theorem gateRow_matches_iff (w : EventWord) : gateRow.Matches w ↔ w = gateWord (w.getLsbD 0) := by
  constructor
  · intro h
    calc w = w &&& 0xFFFF#16 := BitVec.and_allOnes.symm
      _ = w &&& 0xFFFE#16 ||| w &&& 1#16 := (BitVec.and_or_distrib_left (y := 0xFFFE#16) (z := 1#16))
      _ = gateWord (w.getLsbD 0) := by
        rw [show w &&& 0xFFFE#16 = 0x8000#16 from h, BitVec.and_one_eq_setWidth_ofBool_getLsbD, gateWord]
  · intro h
    rw [h]
    cases w.getLsbD 0 <;> decide

/-- Settles O5, form by form; the word matches none of the three exactly when its decoding is none of the
three events. -/
theorem decodeIsTheMatchMaskTable : Obligations.DecodeIsTheMatchMaskTable := by
  intro c w
  have hidle : idleRow.Matches w ↔ decodeWord c w = .idle :=
    (idleRow_matches_iff w).trans (decodeWord_eq_idle_iff c w).symm
  have hsample : (sampleRow c).Matches w ↔ decodeWord c w = .sample (payloadField w) :=
    (sampleRow_matches_iff c w).trans (decodeWord_eq_sample_iff c w _).symm
  have hgate : gateRow.Matches w ↔ decodeWord c w = .gate (w.getLsbD 0) :=
    (gateRow_matches_iff w).trans (decodeWord_eq_gate_iff c w _).symm
  refine ⟨hidle, hsample, hgate, ?_⟩
  rw [hidle, hsample, hgate]
  obtain ⟨_, _, hd⟩ | ⟨_, _, hd⟩ | ⟨_, _, hd⟩ | ⟨_, hd⟩ := decodeWord_cases c w
  · simp [hd]
  · simp [hd]
  · simp [hd]
  · simp [hd]

/-- R67's four kinds of word, by their values. -/
theorem reservedWord_iff (c : Config) (w : EventWord) :
    c.ReservedWord w ↔ 0xC000 ≤ w.toNat ∨ (1 ≤ w.toNat ∧ w.toNat ≤ 0x3FFF) ∨
      (0x4000 + 2 ^ c.sampleBits.toNat ≤ w.toNat ∧ w.toNat ≤ 0x7FFF) ∨ (0x8002 ≤ w.toNat ∧ w.toNat ≤ 0xBFFF) := by
  simp only [Config.ReservedWord, Config.Fits, Config.sampleCount, ne_eq, ← BitVec.toNat_inj, kindField_toNat,
    payloadField_toNat, gateZeroField_toNat]
  generalize 2 ^ c.sampleBits.toNat = samples
  have hw := w.isLt
  simp only [BitVec.reduceToNat]
  omega

theorem coreStep_of_reservedWord {s : State} {w : EventWord} (hr : s.halted = false) (h : s.cfg.ReservedWord w) :
    coreStep w s = .next (raiseFault .rsvdEvt s) := by
  rw [coreStep, decodeWord_of_reservedWord h, exec, execReserved, unlessHalted_of_running hr]

/-- Settles O6: the decoding and the event of a word of R67's four kinds. -/
theorem reservedWordsRaiseRsvdEvt : Obligations.ReservedWordsRaiseRsvdEvt := by
  intro s w _ illegal
  have hillegal : s.cfg.ReservedWord w ↔ illegal := reservedWord_iff s.cfg w
  exact ⟨(decodeWord_eq_reserved_iff s.cfg w).trans hillegal, fun hr h => coreStep_of_reservedWord hr (hillegal.mpr h)⟩

/-- Settles O7: eight closed decodings. -/
theorem specWordsDecode : Obligations.SpecWordsDecode := by
  unfold Obligations.SpecWordsDecode
  decide

end Sys2Proof.Machine
end

section
/-! The text form of event words (30_encoding R70): how operands are read, and the words of the forms. -/

namespace Sys2Proof.Machine

open Sys2Proof

/-- The characters that are digits in some base up to 16, of either case, and their values. -/
theorem digitValue_of_toNat {ch : Char} {d : Nat} (base : Nat)
    (h : d < 10 ∧ ch.toNat = d + 48 ∨ (10 ≤ d ∧ d < 16) ∧ (ch.toNat = d + 55 ∨ ch.toNat = d + 87)) :
    digitValue base ch = if d < base then some d else none := by
  obtain ⟨hd, hch⟩ | ⟨hd, hch | hch⟩ := h <;>
    simp (disch := omega) only [digitValue, hch, if_pos, if_neg, Nat.add_sub_cancel]

/-- The letters after F, of either case, are digits in no base. -/
theorem digitValue_of_letter_past {ch : Char} (base : Nat)
    (h : 71 ≤ ch.toNat ∧ ch.toNat ≤ 90 ∨ 103 ≤ ch.toNat) : digitValue base ch = none := by
  simp (disch := omega) only [digitValue, if_neg, Nat.lt_irrefl, if_false]

/-- A digit as `Nat.toDigits` writes it has its own value, in every base up to 16. -/
theorem digitValue_digitChar {base d : Nat} (hb : base ≤ 16) (hd : d < base) :
    digitValue base d.digitChar = some d := by
  obtain hdec | hhex := lt_or_ge d 10
  · have hcode : d.digitChar.toNat = d + 48 := (Nat.toNat_digitChar_of_lt_ten hdec).trans (Nat.add_comm 48 d)
    rw [digitValue_of_toNat base (.inl ⟨hdec, hcode⟩), if_pos hd]
  · have hd16 : d < 16 := by omega
    have hcode : d.digitChar.toNat = d + 87 := by interval_cases d <;> rfl
    rw [digitValue_of_toNat base (.inr ⟨⟨hhex, hd16⟩, .inr hcode⟩), if_pos hd]

/-- Upper and lower case digits have the same value (log 22). -/
theorem digitValue_toLower (base : Nat) (ch : Char) : digitValue base ch.toLower = digitValue base ch := by
  by_cases hup : ch.isUpper
  · have hrange : 65 ≤ ch.toNat ∧ ch.toNat ≤ 90 := by
      simpa [Char.isUpper, UInt32.le_iff_toNat_le] using hup
    have hlower : ch.toLower.toNat = ch.toNat + 32 := by
      rw [Char.toLower_eq_of_isUpper hup, Char.toNat_ofNat, if_pos (.inl (by omega))]
    obtain hhex | hpast := le_or_gt ch.toNat 70
    · rw [digitValue_of_toNat (d := ch.toNat - 55) base (by omega),
        digitValue_of_toNat (d := ch.toNat - 55) base (by omega)]
    · rw [digitValue_of_letter_past base (by omega), digitValue_of_letter_past base (by omega)]
  · rw [Char.toLower_eq_of_not_isUpper hup]

theorem readDigits_append (base : Nat) (xs ys : List Char) (acc : Nat) :
    readDigits base (xs ++ ys) acc = (readDigits base xs acc).bind (readDigits base ys) := by
  induction xs generalizing acc with
  | nil => rfl
  | cons ch xs ih =>
    simp only [List.cons_append, readDigits]
    split
    · exact ih _
    · rfl

theorem readDigits_toLower (base : Nat) (xs : List Char) (acc : Nat) :
    readDigits base (xs.map Char.toLower) acc = readDigits base xs acc := by
  induction xs generalizing acc with
  | nil => rfl
  | cons ch xs ih => simp only [List.map_cons, readDigits, digitValue_toLower, ih]

/-- Leading zeros add nothing (log 22). -/
theorem readDigits_zeros {base : Nat} (hb : 0 < base) (zeros : Nat) :
    readDigits base (List.replicate zeros '0') 0 = some 0 := by
  have hzero : digitValue base '0' = some 0 := by simp [digitValue, hb]
  induction zeros with
  | zero => rfl
  | succ zeros ih => simpa [List.replicate_succ, readDigits, hzero] using ih

/-- The digits of a number are read as it: the last digit's step undoes the division by the base. -/
theorem readDigits_toDigits {base : Nat} (h1 : 1 < base) (h16 : base ≤ 16) (n : Nat) :
    readDigits base (Nat.toDigits base n) 0 = some n := by
  induction n using Nat.strong_induction_on with
  | _ n ih =>
    have hlast : digitValue base (n % base).digitChar = some (n % base) :=
      digitValue_digitChar h16 (Nat.mod_lt n (by omega))
    obtain hlt | hle := lt_or_ge n base
    · rw [Nat.mod_eq_of_lt hlt] at hlast
      simp [Nat.toDigits_of_lt_base hlt, readDigits, hlast]
    · rw [Nat.toDigits_of_base_le h1 hle, readDigits_append, ih (n / base) (Nat.div_lt_self (by omega) h1)]
      simp [readDigits, hlast, Nat.div_add_mod']

/-- Leading zeros and then the digits of a number are read as the number. -/
theorem readDigits_zeros_append_toDigits {base : Nat} (h1 : 1 < base) (h16 : base ≤ 16) (zeros n : Nat) :
    readDigits base (List.replicate zeros '0' ++ Nat.toDigits base n) 0 = some n := by
  rw [readDigits_append, readDigits_zeros (by omega), Option.bind_some, readDigits_toDigits h1 h16]

/-- Text that reads as decimal digits is a decimal operand: `x` is no decimal digit, so it is no `0x` form. -/
theorem readNumber_of_readDigits {text : List Char} {n : Nat} (hne : text ≠ []) (h : readDigits 10 text 0 = some n) :
    readNumber text = some n := by
  unfold readNumber
  split
  · exact absurd rfl hne
  · cases h
  · exact h

/-- Settles O54: both forms are digits after leading zeros, and the case of hexadecimal digits is not read. -/
theorem operandsAreReadAsSpelled : Obligations.OperandsAreReadAsSpelled := by
  constructor
  · intro n zeros
    have hne : List.replicate zeros '0' ++ Nat.toDigits 10 n ≠ [] :=
      List.append_ne_nil_of_right_ne_nil _ Nat.toDigits_ne_nil
    exact readNumber_of_readDigits hne (readDigits_zeros_append_toDigits (by omega) (by omega) zeros n)
  · intro n zeros digits hdigits
    have hne : digits ≠ [] := by
      rintro rfl
      exact List.append_ne_nil_of_right_ne_nil _ Nat.toDigits_ne_nil hdigits.symm
    calc readNumber ('0' :: 'x' :: digits) = readDigits 16 digits 0 := if_neg hne
      _ = readDigits 16 (digits.map Char.toLower) 0 := (readDigits_toLower 16 digits 0).symm
      _ = some n := by rw [hdigits, readDigits_zeros_append_toDigits (by omega) (by omega)]

/-- Under a valid configuration SAMPLE_MAX fits the VALUE field (R62, R152). -/
theorem sampleMax_lt {c : Config} (hc : c.Valid) : c.sampleMax < 2 ^ 14 := by
  obtain ⟨⟨_, hbits⟩, _⟩ := (valid_iff c).mp hc
  have hcount : c.sampleCount ≤ 2 ^ 14 := Nat.pow_le_pow_right two_pos (by omega)
  have hpos : 0 < c.sampleCount := Nat.two_pow_pos _
  rw [Config.sampleMax]
  omega

/-- Settles O53: each form's word, and each refusal, is one branch of `assemble`. -/
theorem assembleFollowsTheTextForm : Obligations.AssembleFollowsTheTextForm := by
  intro c hc
  refine ⟨rfl, fun v hv => ?_, fun v hv => if_neg (by omega), rfl, rfl, fun a ha => if_neg (by omega),
    fun w hw => if_pos hw⟩
  refine ⟨sampleWord (BitVec.ofNat 14 v), if_pos hv, ?_⟩
  rw [sampleWord_toNat, BitVec.toNat_ofNat, Nat.mod_eq_of_lt (hv.trans_lt (sampleMax_lt hc))]

end Sys2Proof.Machine
end

section
/-! The hysteresis filter (40_frequency_mapper R81 to R85): the integer form is the exact rounded average.
Later proofs about the filter cite `le_smoothedOf_iff` and `smoothedOf_lt_iff` and open neither form. -/

namespace Sys2Proof.Machine

open Sys2Proof

/-- N / D is the average of R82. -/
theorem filterNum_div_filterDen {c : Config} (hR : 1 ≤ c.sampleRangeSize) (s p : Nat) :
    (filterNum c s p : ℚ) / filterDen c = Pitch.average c s p := by
  have hR0 : (c.sampleRangeSize : ℚ) ≠ 0 := by exact_mod_cast (show c.sampleRangeSize ≠ 0 by omega)
  simp only [filterNum, filterDen, Pitch.average, Pitch.quantize]
  push_cast
  field_simp

/-- R84's integer division is R83's rounding: it is the floor of (2N + D) / (2D) = average + 1/2. -/
theorem smoothedOf_eq_smoothed {c : Config} (hR : 1 ≤ c.sampleRangeSize) (s p : Nat) :
    smoothedOf c s p = Pitch.smoothed c s p := by
  have hD : 0 < filterDen c := by rw [filterDen]; omega
  have hD0 : (filterDen c : ℚ) ≠ 0 := by exact_mod_cast hD.ne'
  have hhalf : Pitch.average c s p + 1 / 2 =
      ((2 * filterNum c s p + filterDen c : ℤ) : ℚ) / ((2 * filterDen c).toNat : ℕ) := by
    have hcast : ((2 * filterDen c).toNat : ℚ) = 2 * filterDen c := by
      exact_mod_cast Int.toNat_of_nonneg (show 0 ≤ 2 * filterDen c by omega)
    rw [← filterNum_div_filterDen hR, hcast]
    push_cast
    field_simp
  rw [Pitch.smoothed, Pitch.roundHalfUp, hhalf, Rat.floor_intCast_div_natCast, Int.toNat_of_nonneg (by omega),
    smoothedOf]

/-- Settles O15: the reference configuration's bounds are linear in the sample and the note. -/
theorem filterIsTheRoundedAverage : Obligations.FilterIsTheRoundedAverage := by
  refine ⟨fun c hR s p => ⟨filterNum_div_filterDen hR s p, smoothedOf_eq_smoothed hR s p⟩, rfl, fun s p hs hp => ?_⟩
  simp only [filterNum, filterDen, Config.reference]
  omega

theorem one_le_sampleRangeSize {c : Config} (hc : c.Valid) : 1 ≤ c.sampleRangeSize := by
  obtain ⟨_, hR, _⟩ := (valid_iff c).mp hc
  exact hR

/-- The filter reaches z exactly when three times z is at most twice the note, the previous note and 3/2. -/
theorem le_smoothedOf_iff {c : Config} (hc : c.Valid) (s p : Nat) (z : ℤ) :
    z ≤ smoothedOf c s p ↔ 3 * (z : ℚ) ≤ 2 * Pitch.quantize c s + p + 3 / 2 := by
  rw [smoothedOf_eq_smoothed (one_le_sampleRangeSize hc), Pitch.smoothed, Pitch.roundHalfUp, Int.le_floor, Pitch.average]
  constructor <;> intro h <;> linarith

theorem smoothedOf_lt_iff {c : Config} (hc : c.Valid) (s p : Nat) (z : ℤ) :
    smoothedOf c s p < z ↔ 2 * Pitch.quantize c s + p + 3 / 2 < 3 * (z : ℚ) := by
  rw [← not_le, le_smoothedOf_iff hc, not_le]

theorem smoothedOf_le_iff {c : Config} (hc : c.Valid) (s p : Nat) (z : ℤ) :
    smoothedOf c s p ≤ z ↔ 2 * Pitch.quantize c s + p < 3 * (z : ℚ) + 3 / 2 := by
  rw [← Int.lt_add_one_iff, smoothedOf_lt_iff hc]
  push_cast
  constructor <;> intro h <;> linarith

/-- R85 over the rationals. -/
theorem smoothedOf_mem_of_quantize_mem {c : Config} (hc : c.Valid) {s p : Nat} {lo hi : ℤ} (hlop : lo ≤ p) (hphi : p ≤ hi)
    (hlo : (lo : ℚ) ≤ Pitch.quantize c s) (hhi : Pitch.quantize c s ≤ hi) :
    lo ≤ smoothedOf c s p ∧ smoothedOf c s p ≤ hi := by
  have hlopQ : (lo : ℚ) ≤ p := by exact_mod_cast hlop
  have hphiQ : (p : ℚ) ≤ hi := by exact_mod_cast hphi
  rw [le_smoothedOf_iff hc, smoothedOf_le_iff hc]
  constructor <;> linarith

/-- The quantized note lies in the scale (R81). -/
theorem quantize_mem_scale {c : Config} {v : SampleField} (hc : c.Valid) (hv : c.Fits v) :
    (c.scaleBottom : ℚ) ≤ Pitch.quantize c v.toNat ∧ Pitch.quantize c v.toNat ≤ c.scaleTop := by
  have hR : (0 : ℚ) < c.sampleRangeSize := by exact_mod_cast one_le_sampleRangeSize hc
  have hquant : Pitch.quantize c v.toNat =
      ((v.toNat * (c.scaleTop - c.scaleBottom) + c.scaleBottom * c.sampleRangeSize : ℤ) : ℚ) / c.sampleRangeSize := by
    rw [Pitch.quantize]
    push_cast
    field_simp
  obtain ⟨hlo, hhi⟩ := quantized_in_scale hc hv
  rw [hquant, le_div_iff₀ hR, div_le_iff₀ hR]
  exact ⟨by exact_mod_cast hlo, by exact_mod_cast hhi⟩

/-- The quantized note lies between the smallest and the largest note of the register. -/
theorem quantize_mem_noteReg {c : Config} {v : SampleField} (hc : c.Valid) (hv : c.Fits v) :
    0 ≤ Pitch.quantize c v.toNat ∧ Pitch.quantize c v.toNat ≤ 255 := by
  obtain ⟨_, _, _, ⟨hbot, _, htop⟩, _⟩ := (valid_iff c).mp hc
  obtain ⟨hlo, hhi⟩ := quantize_mem_scale hc hv
  exact ⟨le_trans (by exact_mod_cast hbot) hlo, hhi.trans (by exact_mod_cast htop)⟩

/-- The register holds the filter's result without loss (R22, R85). -/
theorem smoothNote_toNat {c : Config} {v : SampleField} (hc : c.Valid) (hv : c.Fits v) (p : NoteReg) :
    ((smoothNote c v p).toNat : ℤ) = smoothedOf c v.toNat p.toNat := by
  obtain ⟨hlo, hhi⟩ := quantize_mem_noteReg hc hv
  obtain ⟨h0, h255⟩ := smoothedOf_mem_of_quantize_mem (lo := 0) (hi := 255) hc (Int.natCast_nonneg p.toNat) (by omega)
    (by exact_mod_cast hlo) (by exact_mod_cast hhi)
  exact toNat_ofInt_noteReg h0 h255

/-- Settles O16, each clause by the lemma of its name. -/
theorem filterStaysInRange : Obligations.FilterStaysInRange := fun _ _ p hc hv =>
  ⟨fun _ _ => smoothedOf_mem_of_quantize_mem hc, smoothNote_toNat hc hv p, smoothNote_between hc hv⟩

end Sys2Proof.Machine
end

section
/-! The filter is monotone (40_frequency_mapper R96, R97). -/

namespace Sys2Proof.Machine

open Sys2Proof

theorem quantize_mono {c : Config} (hc : c.Valid) {s1 s2 : Nat} (hs : s1 ≤ s2) :
    Pitch.quantize c s1 ≤ Pitch.quantize c s2 := by
  obtain ⟨_, hR, _, ⟨_, hscale, _⟩, _⟩ := (valid_iff c).mp hc
  have hslope : (0 : ℚ) ≤ ((c.scaleTop : ℚ) - c.scaleBottom) / c.sampleRangeSize :=
    div_nonneg (sub_nonneg.mpr (by exact_mod_cast hscale)) (by exact_mod_cast (by omega : 0 ≤ c.sampleRangeSize))
  simp only [Pitch.quantize]
  gcongr

/-- Whatever the filter reaches from smaller arguments it reaches from larger ones. -/
theorem smoothedOf_mono {c : Config} (hc : c.Valid) {s1 s2 p1 p2 : Nat} (hs : s1 ≤ s2) (hp : p1 ≤ p2) :
    smoothedOf c s1 p1 ≤ smoothedOf c s2 p2 := by
  have hreach := (le_smoothedOf_iff hc s1 p1 _).mp le_rfl
  have hq := quantize_mono hc hs
  have hpQ : (p1 : ℚ) ≤ p2 := by exact_mod_cast hp
  rw [le_smoothedOf_iff hc]
  linarith

theorem smoothNote_mono {c : Config} (hc : c.Valid) {u v : SampleField} {p q : NoteReg} (hu : c.Fits u) (hv : c.Fits v)
    (huv : u.toNat ≤ v.toNat) (hpq : p.toNat ≤ q.toNat) : (smoothNote c u p).toNat ≤ (smoothNote c v q).toNat := by
  have hmono := smoothedOf_mono hc huv hpq
  rwa [← smoothNote_toNat hc hu, ← smoothNote_toNat hc hv, Int.ofNat_le] at hmono

/-- R97's comparison of two runs, also from comparable notes. -/
theorem foldl_smoothNote_mono {c : Config} (hc : c.Valid) {l1 l2 : List SampleField} {p q : NoteReg}
    (hl : List.Forall₂ (fun a b : SampleField => c.Fits a ∧ c.Fits b ∧ a.toNat ≤ b.toNat) l1 l2)
    (hpq : p.toNat ≤ q.toNat) :
    (l1.foldl (fun r v => smoothNote c v r) p).toNat ≤ (l2.foldl (fun r v => smoothNote c v r) q).toNat := by
  induction hl generalizing p q with
  | nil => exact hpq
  | cons hab _ ih =>
    obtain ⟨ha, hb, hle⟩ := hab
    exact ih (smoothNote_mono hc ha hb hle hpq)

/-- Settles O17. A note at most 3/4 above the current one is within the filter's reach, so the next is no
lower; and the filter's result is then again at most 3/4 above the current note, so above any later one. -/
theorem filterIsMonotone : Obligations.FilterIsMonotone := by
  refine ⟨fun c hc => ⟨fun s1 s2 => quantize_mono hc, fun s1 s2 p1 p2 => smoothedOf_mono hc,
    fun l1 l2 p hl => foldl_smoothNote_mono hc hl le_rfl, fun s s' p hs hp => ⟨?_, ?_⟩⟩, by decide, by decide⟩
  · rw [le_smoothedOf_iff hc, Int.cast_natCast]
    linarith
  · have hreach := (le_smoothedOf_iff hc s p _).mp le_rfl
    have hq := quantize_mono hc hs
    linarith

end Sys2Proof.Machine
end

section
/-! The hysteresis band and the settling of the note under a steady sample (40_frequency_mapper R98, R99). -/

namespace Sys2Proof.Machine

open Sys2Proof

/-- R98: the notes that a sample keeps. -/
theorem smoothNote_eq_self_iff {c : Config} {v : SampleField} (hc : c.Valid) (hv : c.Fits v) (p : NoteReg) :
    smoothNote c v p = p ↔
      (p.toNat : ℚ) - 3 / 4 ≤ Pitch.quantize c v.toNat ∧ Pitch.quantize c v.toNat < p.toNat + 3 / 4 := by
  rw [← BitVec.toNat_inj, ← Int.natCast_inj, smoothNote_toNat hc hv, eq_comm, eq_iff_le_not_lt, not_lt,
    le_smoothedOf_iff hc, smoothedOf_le_iff hc, Int.cast_natCast]
  constructor <;> rintro ⟨hlo, hhi⟩ <;> constructor <;> linarith

/-- Two notes that one sample keeps differ by at most 1: the band is narrower than 2. -/
theorem fixed_le_add_one {c : Config} {v : SampleField} (hc : c.Valid) (hv : c.Fits v) {p q : NoteReg}
    (hp : smoothNote c v p = p) (hq : smoothNote c v q = q) : p.toNat ≤ q.toNat + 1 := by
  obtain ⟨hlo, _⟩ := (smoothNote_eq_self_iff hc hv p).mp hp
  obtain ⟨_, hhi⟩ := (smoothNote_eq_self_iff hc hv q).mp hq
  have hlt : (p.toNat : ℚ) < q.toNat + 2 := by linarith
  have : p.toNat < q.toNat + 2 := by exact_mod_cast hlt
  omega

/-- The quantized note, rounded, is a note that the sample keeps. -/
theorem exists_fixed {c : Config} {v : SampleField} (hc : c.Valid) (hv : c.Fits v) : ∃ p : NoteReg, smoothNote c v p = p := by
  obtain ⟨h0, h255⟩ := quantize_mem_noteReg hc hv
  obtain ⟨r, hlo, hhi⟩ : ∃ r : ℤ, (r : ℚ) ≤ Pitch.quantize c v.toNat + 1 / 2 ∧ Pitch.quantize c v.toNat + 1 / 2 < r + 1 :=
    ⟨_, Int.floor_le _, Int.lt_floor_add_one _⟩
  have hr0 : -1 < r := by exact_mod_cast (show ((-1 : ℤ) : ℚ) < r by push_cast; linarith)
  have hr255 : r < 256 := by exact_mod_cast (show (r : ℚ) < 256 by linarith)
  have hnote : ((BitVec.ofInt 8 r).toNat : ℚ) = r := by exact_mod_cast toNat_ofInt_noteReg (z := r) (by omega) (by omega)
  refine ⟨BitVec.ofInt 8 r, (smoothNote_eq_self_iff hc hv _).mpr ?_⟩
  rw [hnote]
  constructor <;> linarith

/-- Settles O18: of three notes in the band two are equal, being pairwise at distance at most 1. -/
theorem hysteresisBandHoldsTheNote : Obligations.HysteresisBandHoldsTheNote := by
  refine ⟨fun c v hc hv => ⟨smoothNote_eq_self_iff hc hv, exists_fixed hc hv, fun p q r hp hq hr => ?_⟩,
    fun v hv => ?_, by decide⟩
  · have := fixed_le_add_one hc hv hp hq
    have := fixed_le_add_one hc hv hq hp
    have := fixed_le_add_one hc hv hq hr
    have := fixed_le_add_one hc hv hr hq
    have := fixed_le_add_one hc hv hp hr
    have := fixed_le_add_one hc hv hr hp
    simp only [← BitVec.toNat_inj]
    omega
  · have hcount : Config.reference.sampleCount = 1024 := by decide
    have hfit : Config.reference.Fits v := by rw [Config.Fits, hcount]; omega
    have hvQ : (v.toNat : ℚ) ≤ 31 := by exact_mod_cast hv
    have hv0 : (0 : ℚ) ≤ v.toNat := Nat.cast_nonneg _
    rw [smoothNote_eq_self_iff (by decide) hfit]
    norm_num [Pitch.quantize, Config.reference]
    constructor <;> linarith

/-- Comparable notes stay comparable under a steady sample. -/
theorem iterate_smoothNote_mono {c : Config} {v : SampleField} (hc : c.Valid) (hv : c.Fits v) {p q : NoteReg}
    (hpq : p.toNat ≤ q.toNat) (j : Nat) : ((smoothNote c v)^[j] p).toNat ≤ ((smoothNote c v)^[j] q).toNat := by
  induction j generalizing p q with
  | zero => exact hpq
  | succ j ih => exact ih (smoothNote_mono hc hv hv le_rfl hpq)

/-- Settles O19: the first move decides the direction, since every later one compares the same two notes
after as many events. -/
theorem steadySampleMovesMonotonically : Obligations.SteadySampleMovesMonotonically := by
  intro c v p hc hv
  obtain hup | hdown := le_total p.toNat (smoothNote c v p).toNat
  · exact .inl (iterate_smoothNote_mono hc hv hup)
  · exact .inr (iterate_smoothNote_mono hc hv hdown)

/-- One event that moves the note brings it closer to the sample's: by at least 1, unless it ends within
1/4. -/
theorem dist_smoothNote_of_ne {c : Config} {v : SampleField} (hc : c.Valid) (hv : c.Fits v) {p : NoteReg}
    (hp : smoothNote c v p ≠ p) :
    |((smoothNote c v p).toNat : ℚ) - Pitch.quantize c v.toNat| ≤
      max (|(p.toNat : ℚ) - Pitch.quantize c v.toNat| - 1) (1 / 4) := by
  have hcast : (((smoothNote c v p).toNat : ℤ) : ℚ) = (smoothNote c v p).toNat := Int.cast_natCast _
  have hlow := (smoothedOf_le_iff hc v.toNat p.toNat _).mp (smoothNote_toNat hc hv p).ge
  have hhigh := (le_smoothedOf_iff hc v.toNat p.toNat _).mp (smoothNote_toNat hc hv p).le
  rw [hcast] at hlow hhigh
  rw [abs_le']
  obtain hlt | hgt := lt_or_gt_of_ne (mt BitVec.toNat_inj.mp hp)
  · have hstep : ((smoothNote c v p).toNat : ℚ) + 1 ≤ p.toNat := by exact_mod_cast hlt
    have hfar := le_abs_self ((p.toNat : ℚ) - Pitch.quantize c v.toNat)
    exact ⟨le_max_of_le_left (by linarith), le_max_of_le_right (by linarith)⟩
  · have hstep : (p.toNat : ℚ) + 1 ≤ (smoothNote c v p).toNat := by exact_mod_cast hgt
    have hfar := neg_abs_le ((p.toNat : ℚ) - Pitch.quantize c v.toNat)
    exact ⟨le_max_of_le_right (by linarith), le_max_of_le_left (by linarith)⟩

/-- After k events a note that was at distance less than k + 3/4 has settled (R99). -/
theorem iterate_smoothNote_settled {c : Config} {v : SampleField} (hc : c.Valid) (hv : c.Fits v) (k : Nat) (p : NoteReg)
    (hdist : |(p.toNat : ℚ) - Pitch.quantize c v.toNat| < k + 3 / 4) :
    smoothNote c v ((smoothNote c v)^[k] p) = (smoothNote c v)^[k] p := by
  induction k generalizing p with
  | zero =>
    obtain ⟨hlo, hhi⟩ := abs_lt.mp hdist
    rw [Nat.cast_zero] at hlo hhi
    exact (smoothNote_eq_self_iff hc hv p).mpr ⟨by linarith, by linarith⟩
  | succ k ih =>
    by_cases hfix : smoothNote c v p = p
    · rw [Function.iterate_fixed hfix, hfix]
    · rw [Function.iterate_succ_apply]
      refine ih _ ((dist_smoothNote_of_ne hc hv hfix).trans_lt (max_lt ?_ ?_))
      · push_cast at hdist
        linarith
      · have := Nat.cast_nonneg (α := ℚ) k
        linarith

end Sys2Proof.Machine
end

section
/-! The SAMPLE event of a running block (41_events R113), and a run of SAMPLE words from the test port. -/

namespace Sys2Proof.Machine

open Sys2Proof

theorem exec_sample_of_running {s : State} {v : SampleField} (hr : s.halted = false) (hc : s.cfg.Valid)
    (hv : s.cfg.Fits v) : exec (.sample v) s = .next (acceptSample (mapSample s.cfg v s.smoothedNote) s) := by
  rw [exec, execSample, unlessHalted_of_running hr, if_neg (not_not.mpr hc), if_neg (not_not.mpr hv)]

/-- Settles O26: SAMPLE tests the configuration and then the value. -/
theorem sampleStopsOutsideItsDomain : Obligations.SampleStopsOutsideItsDomain := by
  intro s v hr
  rw [exec, execSample, unlessHalted_of_running hr]
  exact ⟨fun hc => if_pos hc, fun hc hv => (if_neg (not_not.mpr hc)).trans (if_pos hv)⟩

theorem step_of_sampleWord {s : State} {v : SampleField} {rest : List AgentStep} (hr : s.halted = false)
    (hc : s.cfg.Valid) (hv : s.cfg.Fits v) (hsch : s.schedule = .inject (sampleWord v) :: rest) :
    step s = .next (acceptSample (mapSample s.cfg v s.smoothedNote) { s with schedule := rest }) := by
  rw [step_of_schedule hsch, agentStep, inject, coreStep, decodeWord_sampleWord, if_pos hv]
  exact exec_sample_of_running (s := { s with schedule := rest }) hr hc hv

theorem run_succ_of_step {M : Host.Core} {s t : M.State} (k : Nat) (h : M.step s = .next t) :
    M.run (k + 1) s = M.run k t := by
  rw [Host.Core.run, h]

/-- PERIOD is the reload value of SMOOTHED_NOTE, as every SAMPLE event leaves it (R52, R113). -/
def State.PeriodOfNote (s : State) : Prop :=
  s.periodValid = true ∧ s.period = some (reloadOf s.cfg s.smoothedNote.toNat).reload

theorem periodOfNote_acceptSample (s : State) (v : SampleField) (sch : List AgentStep) :
    (acceptSample (mapSample s.cfg v s.smoothedNote) { s with schedule := sch }).PeriodOfNote := ⟨rfl, rfl⟩

/-- k injections of one SAMPLE word apply the filter k times, and leave PERIOD the reload value of the note
if there was at least one or PERIOD was so before. -/
theorem run_sampleWords {v : SampleField} {rest : List AgentStep} (k : Nat) {s : State} (hr : s.halted = false)
    (hc : s.cfg.Valid) (hv : s.cfg.Fits v) (hk : 1 ≤ k ∨ s.PeriodOfNote)
    (hsch : s.schedule = List.replicate k (.inject (sampleWord v)) ++ rest) :
    ∃ t, core.run k s = .next t ∧ t.cfg = s.cfg ∧ t.halted = false ∧ t.schedule = rest ∧
      t.smoothedNote = (smoothNote s.cfg v)^[k] s.smoothedNote ∧ t.PeriodOfNote := by
  induction k generalizing s with
  | zero => exact ⟨s, rfl, rfl, hr, hsch, rfl, hk.resolve_left (by omega)⟩
  | succ k ih =>
    have hstep := step_of_sampleWord hr hc hv hsch
    obtain ⟨t, hrun, ht⟩ := ih (s := acceptSample (mapSample s.cfg v s.smoothedNote) { s with schedule := _ })
      hr hc hv (.inr (periodOfNote_acceptSample s v _)) rfl
    exact ⟨t, (run_succ_of_step (M := core) k hstep).trans hrun, ht⟩

/-- Settles O20: after the k events the note has settled, so one more writes the same note, and with it the
same PERIOD. -/
theorem steadySampleSettles : Obligations.SteadySampleSettles := by
  intro s v k rest hr hc hv hk hdist hsch
  rw [List.replicate_succ', List.append_assoc] at hsch
  obtain ⟨t, hrun, hcfg, hrt, hscht, hnote, hvalid, hperiod⟩ := run_sampleWords k hr hc hv (.inl hk) hsch
  have hfix : smoothNote t.cfg v t.smoothedNote = t.smoothedNote := by
    rw [hcfg, hnote]
    exact iterate_smoothNote_settled hc hv k _ (by linarith)
  refine ⟨t, _, hrun, step_of_sampleWord hrt (hcfg ▸ hc) (hcfg ▸ hv) hscht, rfl, hfix, ?_, hvalid⟩
  rw [hperiod, acceptSample_period, mapSample, hfix]

end Sys2Proof.Machine
end

section
/-! The clamp (40_frequency_mapper R92, R93): everything `reloadOf` can answer, under every configuration. -/

namespace Sys2Proof.Machine

open Sys2Proof

/-- The search finds the largest value that `rawAtLeast` holds of. -/
theorem rawAtLeast_iff_le_searchRaw {c : Config} {n : Int} (h : rawAtLeast c n 65536 = false) {k : Nat} (hk : 1 ≤ k) :
    rawAtLeast c n k = true ↔ k ≤ searchRaw c n 16 0 := by
  obtain ⟨_, _, hreached, hnext⟩ := searchRaw_spec c n 16 0 (.inl rfl) h
  constructor
  · intro hraw
    by_contra hgt
    rw [rawAtLeast_anti (by omega) hraw] at hnext
    cases hnext
  · intro hle
    exact rawAtLeast_anti hle (hreached.resolve_left (by omega))

/-- Everything `reloadOf` can answer: a clamp high, a clamp low, or the unclamped value with neither. -/
theorem reloadOf_cases (c : Config) (n : Int) :
    (rawAtLeast c n 65536 = true ∧ rawAtLeast c n 1 = true ∧ reloadOf c n = ⟨65535#16, true, false⟩) ∨
    (rawAtLeast c n 65536 = false ∧ rawAtLeast c n 1 = false ∧ reloadOf c n = ⟨1#16, false, true⟩) ∨
    (∃ r : Reload, rawAtLeast c n 65536 = false ∧ rawAtLeast c n 1 = true ∧ reloadOf c n = ⟨r, false, false⟩ ∧
      ∀ k : Nat, 1 ≤ k → (rawAtLeast c n k = true ↔ k ≤ r.toNat)) := by
  cases hhi : rawAtLeast c n 65536 with
  | true => exact .inl ⟨rfl, rawAtLeast_anti (by omega) hhi, by simp [reloadOf, hhi]⟩
  | false =>
    cases hlo : rawAtLeast c n 1 with
    | false => exact .inr (.inl ⟨rfl, rfl, by simp [reloadOf, hhi, hlo]⟩)
    | true =>
      obtain ⟨_, hlt, _⟩ := searchRaw_spec c n 16 0 (.inl rfl) hhi
      refine .inr (.inr ⟨BitVec.ofNat 16 (searchRaw c n 16 0), rfl, rfl, ?_, fun k hk => ?_⟩)
      · simp [reloadOf, hhi, hlo]
      · rw [BitVec.toNat_ofNat, Nat.mod_eq_of_lt (by omega)]
        exact rawAtLeast_iff_le_searchRaw hhi hk

/-- Settles O24, answer by answer. -/
theorem clampNeverWraps : Obligations.ClampNeverWraps := by
  intro c n
  obtain ⟨hhi, hlo, hr⟩ | ⟨hhi, hlo, hr⟩ | ⟨r, hhi, hlo, hr, hraw⟩ := reloadOf_cases c n
  · simp [hr, hhi, hlo]
  · simp [hr, hhi, hlo]
  · have hone : 1 ≤ r.toNat := (hraw 1 le_rfl).mp hlo
    simpa [hr, hhi, hlo, hone] using hraw

end Sys2Proof.Machine
end

section
/-! The half-period as A·2^(−m/K), and why it is irrational (40_frequency_mapper R86 to R90). -/

namespace Sys2Proof.Machine

open Sys2Proof

variable {c : Config}

theorem tickNum_cast (hc : c.Valid) : (tickNum c : ℝ) = c.clkHz * c.refFrequency.den := by
  obtain ⟨_, _, _, _, _, _, _, hclk, _⟩ := (valid_iff c).mp hc
  exact_mod_cast Int.toNat_of_nonneg (show 0 ≤ c.clkHz * c.refFrequency.den by positivity)

theorem tickDen_cast (hc : c.Valid) : (tickDen c : ℝ) = 2 * c.prescaler * c.refFrequency.num := by
  obtain ⟨_, _, _, _, _, hfreq, _, _, hpre⟩ := (valid_iff c).mp hc
  have hnum : 0 < c.refFrequency.num := Rat.num_pos.mpr hfreq
  exact_mod_cast Int.toNat_of_nonneg (show 0 ≤ 2 * c.prescaler * c.refFrequency.num by positivity)

theorem pitchRoot_cast (hc : c.Valid) : (pitchRoot c : ℤ) = 2 * c.semitonesPerOctave := by
  obtain ⟨_, _, _, _, _, _, hspo, _⟩ := (valid_iff c).mp hc
  exact Int.toNat_of_nonneg (by omega)

theorem tickNum_pos (hc : c.Valid) : 0 < tickNum c := by
  obtain ⟨_, _, _, _, _, _, _, hclk, _⟩ := (valid_iff c).mp hc
  exact Int.lt_toNat.mpr (mul_pos (by omega) (by exact_mod_cast c.refFrequency.den_pos))

theorem tickDen_pos (hc : c.Valid) : 0 < tickDen c := by
  obtain ⟨_, _, _, _, _, hfreq, _, _, hpre⟩ := (valid_iff c).mp hc
  exact Int.lt_toNat.mpr (mul_pos (by omega) (Rat.num_pos.mpr hfreq))

theorem pitchRoot_pos (hc : c.Valid) : 0 < pitchRoot c := by
  obtain ⟨_, _, _, _, _, _, hspo, _⟩ := (valid_iff c).mp hc
  have := pitchRoot_cast hc
  omega

theorem refFrequency_pos (hc : c.Valid) : (0 : ℝ) < c.refFrequency := by
  obtain ⟨_, _, _, _, _, hfreq, _⟩ := (valid_iff c).mp hc
  exact_mod_cast hfreq

theorem tickRate_pos (hc : c.Valid) : (0 : ℝ) < c.clkHz / (2 * c.prescaler) := by
  obtain ⟨_, _, _, _, _, _, _, hclk, hpre⟩ := (valid_iff c).mp hc
  have hclk0 : (0 : ℝ) < c.clkHz := by exact_mod_cast hclk
  have hpre0 : (0 : ℝ) < c.prescaler := by exact_mod_cast hpre
  positivity

/-- The exponent of R87 is m/K: the bias of a half makes the numerator 2·(n − REF_NOTE) + 1. -/
theorem offset_div_eq (hc : c.Valid) (n : ℤ) :
    ((Pitch.offset c n / c.semitonesPerOctave : ℚ) : ℝ) = (pitchOffset c n : ℝ) / pitchRoot c := by
  have hK : (pitchRoot c : ℝ) = 2 * c.semitonesPerOctave := by exact_mod_cast pitchRoot_cast hc
  rw [hK, Pitch.offset, pitchOffset]
  push_cast
  rw [mul_comm, ← div_div]
  congr 1
  ring

theorem frequency_eq (hc : c.Valid) (n : ℤ) :
    Pitch.frequency c n = c.refFrequency * (2 : ℝ) ^ ((pitchOffset c n : ℝ) / pitchRoot c) := by
  rw [Pitch.frequency, offset_div_eq hc]

theorem frequency_pos (hc : c.Valid) (n : ℤ) : 0 < Pitch.frequency c n := by
  rw [frequency_eq hc]
  exact mul_pos (refFrequency_pos hc) (Real.rpow_pos_of_pos two_pos _)

/-- R88 over one fraction: the half-period is CLK_HZ / (2·PRESCALER) over the frequency. -/
theorem halfPeriodTicks_eq_div_frequency (n : ℤ) :
    Pitch.halfPeriodTicks c n = (c.clkHz : ℝ) / (2 * c.prescaler) / Pitch.frequency c n := by
  rw [Pitch.halfPeriodTicks, div_div_eq_mul_div, div_div, div_mul_eq_mul_div, one_mul, div_div, div_div]
  congr 1
  ring

theorem halfPeriodTicks_pos (hc : c.Valid) (n : ℤ) : 0 < Pitch.halfPeriodTicks c n := by
  rw [halfPeriodTicks_eq_div_frequency]
  exact div_pos (tickRate_pos hc) (frequency_pos hc n)

/-- R90's form of x. -/
theorem halfPeriodTicks_eq (hc : c.Valid) (n : ℤ) :
    Pitch.halfPeriodTicks c n =
      (tickNum c : ℝ) / tickDen c * (2 : ℝ) ^ (-(pitchOffset c n : ℝ) / pitchRoot c) := by
  have hden : (c.refFrequency.den : ℝ) ≠ 0 := by exact_mod_cast c.refFrequency.den_ne_zero
  rw [halfPeriodTicks_eq_div_frequency, frequency_eq hc, tickNum_cast hc, tickDen_cast hc, neg_div,
    Real.rpow_neg two_pos.le, Rat.cast_def]
  field_simp

/-- The K-th power of x is (a/d)^K·2^(−m), the number that R91 compares. -/
theorem halfPeriodTicks_pow (hc : c.Valid) (n : ℤ) :
    Pitch.halfPeriodTicks c n ^ pitchRoot c =
      ((tickNum c : ℝ) / tickDen c) ^ pitchRoot c * (2 : ℝ) ^ (-pitchOffset c n) := by
  have hK : (pitchRoot c : ℝ) ≠ 0 := by exact_mod_cast (pitchRoot_pos hc).ne'
  rw [halfPeriodTicks_eq hc, mul_pow, ← Real.rpow_mul_natCast two_pos.le, div_mul_cancel₀ _ hK, ← Int.cast_neg,
    Real.rpow_intCast]

/-- R90: were x rational, the power of 2 in x^K = (a/d)^K·2^(−m) would make m a multiple of K, which is
even; and m is odd. -/
theorem irrational_halfPeriodTicks (hc : c.Valid) (n : ℤ) : Irrational (Pitch.halfPeriodTicks c n) := by
  rintro ⟨q, hq⟩
  have hpow : q ^ pitchRoot c = ((tickNum c : ℚ) / tickDen c) ^ pitchRoot c * (2 : ℚ) ^ (-pitchOffset c n) := by
    refine Rat.cast_injective (α := ℝ) ?_
    push_cast
    rw [hq, halfPeriodTicks_pow hc]
  have hA : ((tickNum c : ℚ) / tickDen c) ^ pitchRoot c ≠ 0 := by
    have := tickNum_pos hc
    have := tickDen_pos hc
    positivity
  have hval := congrArg (padicValRat 2) hpow
  rw [padicValRat.mul hA (by positivity), padicValRat.pow, padicValRat.pow, padicValRat.zpow,
    show padicValRat 2 (2 : ℚ) = 1 from padicValRat.self one_lt_two, pitchRoot_cast hc, mul_assoc, mul_assoc,
    pitchOffset] at hval
  omega

/-- x is no half of an integer, so never a tie (R90). -/
theorem halfPeriodTicks_ne_half (hc : c.Valid) (n k : ℤ) : Pitch.halfPeriodTicks c n ≠ k + 1 / 2 := by
  intro h
  refine (irrational_halfPeriodTicks hc n).ne_rat (k + 1 / 2) ?_
  push_cast
  exact h

theorem raw_eq_round (n : ℤ) : Pitch.raw c n = round (Pitch.halfPeriodTicks c n) := (round_eq _).symm

/-- Without a tie x is nearer than 1/2 to the rounded value. -/
theorem abs_halfPeriodTicks_sub_raw_lt (hc : c.Valid) (n : ℤ) :
    |Pitch.halfPeriodTicks c n - Pitch.raw c n| < 1 / 2 := by
  rw [raw_eq_round]
  refine lt_of_le_of_ne (abs_sub_round _) fun htie => ?_
  obtain h | h := eq_or_eq_neg_of_abs_eq htie
  · exact halfPeriodTicks_ne_half hc n _ (eq_add_of_sub_eq' h)
  · refine halfPeriodTicks_ne_half hc n (round (Pitch.halfPeriodTicks c n) - 1) ?_
    push_cast
    linarith

/-- Another integer is at distance at least 1 from raw, and so more than 1/2 from x. -/
theorem raw_nearest (hc : c.Valid) (n : ℤ) {k : ℤ} (hk : k ≠ Pitch.raw c n) :
    |Pitch.halfPeriodTicks c n - Pitch.raw c n| < |Pitch.halfPeriodTicks c n - k| := by
  have hnear := abs_halfPeriodTicks_sub_raw_lt hc n
  have hapart : (1 : ℝ) ≤ |(k : ℝ) - Pitch.raw c n| := by
    exact_mod_cast Int.one_le_abs (sub_ne_zero.mpr hk)
  have htriangle := abs_sub_le (k : ℝ) (Pitch.halfPeriodTicks c n) (Pitch.raw c n)
  rw [abs_sub_comm (k : ℝ) (Pitch.halfPeriodTicks c n)] at htriangle
  linarith

/-- Settles O14, each clause by the lemma of its name. -/
theorem halfPeriodIsNeverATie : Obligations.HalfPeriodIsNeverATie := fun _ n hc =>
  ⟨halfPeriodTicks_eq hc n, irrational_halfPeriodTicks hc n, halfPeriodTicks_ne_half hc n, fun _ => raw_nearest hc n⟩

end Sys2Proof.Machine
end

section
/-! The procedure of R91 decides by the exact half-period, and its reload value is R92's
(40_frequency_mapper R88 to R93). -/

namespace Sys2Proof.Machine

open Sys2Proof

variable {c : Config}

/-- Both branches of `gt` compare (t·d)^K with (2a)^K·2^(−m). -/
theorem exceedsHalves_iff_pow (n : ℤ) (t : Nat) : exceedsHalves c n t = true ↔
    ((t * tickDen c : ℕ) : ℝ) ^ pitchRoot c < ((2 * tickNum c : ℕ) : ℝ) ^ pitchRoot c * (2 : ℝ) ^ (-pitchOffset c n) := by
  dsimp only [exceedsHalves]
  split
  · next hm =>
    obtain ⟨m, hm⟩ := Int.eq_ofNat_of_zero_le hm
    rw [hm, zpow_neg, ← div_eq_mul_inv, lt_div_iff₀ (by positivity), decide_eq_true_eq, zpow_natCast, Int.toNat_natCast]
    exact_mod_cast Iff.rfl
  · next hm =>
    obtain ⟨m, hm⟩ := Int.eq_ofNat_of_zero_le (show 0 ≤ -pitchOffset c n by omega)
    rw [hm, decide_eq_true_eq, zpow_natCast, Int.toNat_natCast]
    exact_mod_cast Iff.rfl

/-- `gt(t/2)` of R91 is x > t/2: both sides to the power K, over the denominator (2d)^K. -/
theorem exceedsHalves_iff (hc : c.Valid) (n : ℤ) (t : Nat) :
    exceedsHalves c n t = true ↔ (t : ℝ) / 2 < Pitch.halfPeriodTicks c n := by
  have hd : (0 : ℝ) < tickDen c := by exact_mod_cast tickDen_pos hc
  have ht : (t : ℝ) / 2 = (t * tickDen c : ℕ) / (2 * tickDen c) := by
    push_cast
    field_simp
  have hx : ((tickNum c : ℝ) / tickDen c) = (2 * tickNum c : ℕ) / (2 * tickDen c) := by
    push_cast
    field_simp
  rw [exceedsHalves_iff_pow, ← pow_lt_pow_iff_left₀ (by positivity) (halfPeriodTicks_pos hc n).le (pitchRoot_pos hc).ne',
    halfPeriodTicks_pow hc, ht, hx, div_pow, div_pow, div_mul_eq_mul_div, div_lt_div_iff_of_pos_right (by positivity)]

/-- Without ties x > r − 1/2 is that raw is at least r. -/
theorem rawAtLeast_iff (hc : c.Valid) (n : ℤ) {r : Nat} (hr : 1 ≤ r) :
    rawAtLeast c n r = true ↔ (r : ℤ) ≤ Pitch.raw c n := by
  have hhalf : ((2 * r - 1 : ℕ) : ℝ) / 2 = r - 1 / 2 := by
    push_cast [Nat.cast_sub (show 1 ≤ 2 * r by omega)]
    ring
  have hne : (r : ℝ) - 1 / 2 ≠ Pitch.halfPeriodTicks c n := by
    intro h
    refine halfPeriodTicks_ne_half hc n (r - 1) ?_
    push_cast
    linarith
  rw [rawAtLeast, exceedsHalves_iff hc, hhalf, Pitch.raw, Int.le_floor, Int.cast_natCast, ← sub_le_iff_le_add]
  exact ⟨le_of_lt, fun h => lt_of_le_of_ne h hne⟩

theorem raw_nonneg (hc : c.Valid) (n : ℤ) : 0 ≤ Pitch.raw c n :=
  Int.floor_nonneg.mpr (by linarith [halfPeriodTicks_pos hc n])

/-- CLAMP_HI by raw (R93). -/
theorem clampHi_iff (hc : c.Valid) (n : ℤ) : (reloadOf c n).clampHi = true ↔ 65535 < Pitch.raw c n := by
  obtain ⟨_, hhi, _⟩ := clampNeverWraps c n
  exact hhi.trans (rawAtLeast_iff hc n (by omega))

/-- CLAMP_LO by raw (R93). -/
theorem clampLo_iff (hc : c.Valid) (n : ℤ) : (reloadOf c n).clampLo = true ↔ Pitch.raw c n = 0 := by
  obtain ⟨_, _, _, hlo, _⟩ := clampNeverWraps c n
  have h0 := raw_nonneg hc n
  rw [hlo, ← Bool.not_eq_true, rawAtLeast_iff hc n le_rfl]
  omega

/-- R92 at every note; where no clamp applies, the reload value and raw have the same lower bounds. -/
theorem reloadOf_toNat (hc : c.Valid) (n : ℤ) : ((reloadOf c n).reload.toNat : ℤ) = Pitch.reload c n := by
  obtain ⟨hone, _, hhival, _, hloval, _, hbetween⟩ := clampNeverWraps c n
  rw [Pitch.reload]
  cases hhi : (reloadOf c n).clampHi with
  | true =>
    have hraw := (clampHi_iff hc n).mp hhi
    rw [hhival hhi, min_eq_right hraw.le]
    rfl
  | false =>
    have hmax : Pitch.raw c n ≤ 65535 := not_lt.mp (mt (clampHi_iff hc n).mpr (by simp [hhi]))
    cases hlo : (reloadOf c n).clampLo with
    | true =>
      rw [hloval hlo, (clampLo_iff hc n).mp hlo]
      rfl
    | false =>
      have hne : Pitch.raw c n ≠ 0 := mt (clampLo_iff hc n).mpr (by simp [hlo])
      have h0 := raw_nonneg hc n
      have hbound : ∀ k : Nat, 1 ≤ k → (k ≤ (reloadOf c n).reload.toNat ↔ (k : ℤ) ≤ Pitch.raw c n) := fun k hk =>
        (hbetween hhi hlo k hk).symm.trans (rawAtLeast_iff hc n hk)
      have hge := (hbound _ hone).mp le_rfl
      have hle := (hbound (Pitch.raw c n).toNat (by omega)).mpr (by omega)
      omega

/-- Settles O13, each clause by the lemma of its function. -/
theorem reloadIsTheRoundedHalfPeriod : Obligations.ReloadIsTheRoundedHalfPeriod := by
  intro c n hc
  refine ⟨exceedsHalves_iff hc n, reloadOf_toNat hc n, ?_, ?_⟩
  · rw [Bool.eq_iff_iff, decide_eq_true_eq, clampHi_iff hc]
  · rw [Bool.eq_iff_iff, decide_eq_true_eq, clampLo_iff hc]

end Sys2Proof.Machine
end

section
/-! Frequency, half-period and reload value over the notes and over an octave (40_frequency_mapper R100 to
R102). -/

namespace Sys2Proof.Machine

open Sys2Proof

variable {c : Config}

theorem frequency_strictMono (hc : c.Valid) : StrictMono (Pitch.frequency c) := by
  intro n1 n2 hn
  have hK : (0 : ℝ) < pitchRoot c := by exact_mod_cast pitchRoot_pos hc
  have hm : (pitchOffset c n1 : ℝ) < pitchOffset c n2 := by
    exact_mod_cast show pitchOffset c n1 < pitchOffset c n2 by simp only [pitchOffset]; omega
  rw [frequency_eq hc, frequency_eq hc]
  exact mul_lt_mul_of_pos_left ((Real.rpow_lt_rpow_left_iff one_lt_two).mpr (div_lt_div_of_pos_right hm hK))
    (refFrequency_pos hc)

theorem halfPeriodTicks_strictAnti (hc : c.Valid) : StrictAnti (Pitch.halfPeriodTicks c) := by
  intro n1 n2 hn
  rw [halfPeriodTicks_eq_div_frequency, halfPeriodTicks_eq_div_frequency]
  exact div_lt_div_of_pos_left (tickRate_pos hc) (frequency_pos hc n1) (frequency_strictMono hc hn)

theorem raw_antitone (hc : c.Valid) : Antitone (Pitch.raw c) := fun _ _ hn =>
  Int.floor_mono (add_le_add_left ((halfPeriodTicks_strictAnti hc).antitone hn) _)

/-- Settles O21: rounding and clamping keep the order of the half-periods, but not its strictness. -/
theorem reloadFallsAsTheNoteRises : Obligations.ReloadFallsAsTheNoteRises := by
  refine fun c hc => ⟨frequency_strictMono hc, halfPeriodTicks_strictAnti hc, fun n1 n2 hn => ?_⟩
  have hraw := raw_antitone hc hn
  have h1 := reloadOf_toNat hc n1
  have h2 := reloadOf_toNat hc n2
  simp only [Pitch.reload] at h1 h2
  omega

/-- Refutes O22: in the reference configuration notes 143 and 144 both have reload value 15, and neither
clamps (95_test_vectors §4.1). -/
theorem not_reloadStrictWhereUnclamped : ¬ Obligations.ReloadStrictWhereUnclamped := by
  intro h
  have h143 : reloadOf Config.reference (143#8).toNat = ⟨15#16, false, false⟩ := by decide
  have h144 : reloadOf Config.reference (144#8).toNat = ⟨15#16, false, false⟩ := by decide
  have hlt := h Config.reference 143#8 144#8 (by decide) (by decide)
  rw [h143, h144] at hlt
  exact absurd (hlt rfl rfl rfl rfl) (lt_irrefl _)

/-- An octave adds K to m. -/
theorem pitchOffset_octave (hc : c.Valid) (n : ℤ) :
    pitchOffset c (n + c.semitonesPerOctave) = pitchOffset c n + pitchRoot c := by
  rw [pitchRoot_cast hc, pitchOffset, pitchOffset]
  ring

theorem frequency_octave (hc : c.Valid) (n : ℤ) :
    Pitch.frequency c (n + c.semitonesPerOctave) = 2 * Pitch.frequency c n := by
  have hK : (pitchRoot c : ℝ) ≠ 0 := by exact_mod_cast (pitchRoot_pos hc).ne'
  rw [frequency_eq hc, frequency_eq hc, pitchOffset_octave hc, Int.cast_add, Int.cast_natCast, add_div, div_self hK,
    Real.rpow_add two_pos, Real.rpow_one]
  ring

theorem halfPeriodTicks_octave (hc : c.Valid) (n : ℤ) :
    Pitch.halfPeriodTicks c (n + c.semitonesPerOctave) = Pitch.halfPeriodTicks c n / 2 := by
  rw [halfPeriodTicks_eq_div_frequency, halfPeriodTicks_eq_div_frequency, frequency_octave hc,
    div_mul_eq_div_div, div_right_comm _ 2]

theorem frequency_refNote (hc : c.Valid) :
    Pitch.frequency c c.refNote = (c.refFrequency : ℝ) * (2 : ℝ) ^ (1 / (2 * (c.semitonesPerOctave : ℝ))) := by
  have hK : (pitchRoot c : ℝ) = 2 * c.semitonesPerOctave := by exact_mod_cast pitchRoot_cast hc
  have hm : pitchOffset c c.refNote = 1 := by simp [pitchOffset]
  rw [frequency_eq hc, hm, hK, Int.cast_one]

/-- R101: half of the rounding at n and the whole of it at the octave are at most 1/4 and 1/2. -/
theorem abs_raw_octave_sub_le (hc : c.Valid) (n : ℤ) :
    |(Pitch.raw c (n + c.semitonesPerOctave) : ℚ) - Pitch.raw c n / 2| ≤ 3 / 4 := by
  obtain ⟨hlo, hhi⟩ := abs_lt.mp (abs_halfPeriodTicks_sub_raw_lt hc n)
  obtain ⟨hlo8, hhi8⟩ := abs_lt.mp (abs_halfPeriodTicks_sub_raw_lt hc (n + c.semitonesPerOctave))
  rw [halfPeriodTicks_octave hc] at hlo8 hhi8
  have hreal : |(Pitch.raw c (n + c.semitonesPerOctave) : ℝ) - Pitch.raw c n / 2| ≤ 3 / 4 :=
    abs_le.mpr ⟨by linarith, by linarith⟩
  rw [← Rat.cast_le (K := ℝ)]
  push_cast
  exact hreal

/-- Settles O23. As the octave's raw is no larger than n's, the two premises rule out all four clamps. -/
theorem octaveHalvesTheReload : Obligations.OctaveHalvesTheReload := by
  refine fun c hc => ⟨frequency_octave hc, frequency_refNote hc, fun n hhi hlo => ?_⟩
  obtain ⟨_, _, _, _, _, _, hspo, _⟩ := (valid_iff c).mp hc
  have hmax : ¬ 65535 < Pitch.raw c n := mt (clampHi_iff hc n).mpr (by simp [hhi])
  have hne : Pitch.raw c (n + c.semitonesPerOctave) ≠ 0 := mt (clampLo_iff hc _).mpr (by simp [hlo])
  have h0 := raw_nonneg hc (n + c.semitonesPerOctave)
  have hfall := raw_antitone hc (show n ≤ n + c.semitonesPerOctave by omega)
  have hn : ((reloadOf c n).reload.toNat : ℤ) = Pitch.raw c n := by
    rw [reloadOf_toNat hc, Pitch.reload]; omega
  have h8 : ((reloadOf c (n + c.semitonesPerOctave)).reload.toNat : ℤ) = Pitch.raw c (n + c.semitonesPerOctave) := by
    rw [reloadOf_toNat hc, Pitch.reload]; omega
  have hraw := abs_raw_octave_sub_le hc n
  rw [← hn, ← h8] at hraw
  simpa only [Int.cast_natCast] using hraw

end Sys2Proof.Machine
end

section
/-! A step with an event word on the test port (41_events R110, 42_event_mux R138), and the block while it is
HALTED (R111, R133). -/

namespace Sys2Proof.Machine

open Sys2Proof

/-- An injection is one core step: it decodes under the configuration, which taking it off the schedule
leaves. -/
theorem step_of_inject {s : State} {w : EventWord} {rest : List AgentStep} (h : s.schedule = .inject w :: rest) :
    step s = exec (decodeWord s.cfg w) { s with schedule := rest } := step_of_schedule h

/-- Settles O8: an encoding decodes to its instruction, and `withFetchWord` adds only the injection that the
step takes off again. -/
theorem stepRunsTheDecodedWord : Obligations.StepRunsTheDecodedWord := by
  refine ⟨fun s w rest hsch => step_of_inject hsch, fun s i rest hi hsch => ?_, fun s nbits w => ?_⟩
  · rw [step_of_inject hsch, decodeInvertsEncode s.cfg i hi]
  · exact step_of_inject (placeWord_schedule s _)

/-- Every event tests HALTED first (R111). -/
theorem exec_of_halted {s : State} (hh : s.halted = true) (i : Instr) : exec i s = .next s := by
  cases i <;> exact unlessHalted_of_halted hh _

theorem arrive_of_halted {s : State} (hh : s.halted = true) (v : SampleField) : arrive v s = .next s := if_pos hh

theorem iteration_of_halted {s : State} (hh : s.halted = true) : iteration s = .next s := if_pos hh

/-- Settles O10: the three agent steps each test HALTED, which does not depend on the schedule. -/
theorem haltedBlockIgnoresEvents : Obligations.HaltedBlockIgnoresEvents := by
  refine fun s hh => ⟨exec_of_halted hh, fun rest a hsch ha => ?_⟩
  have hrest : ({ s with schedule := rest } : State).halted = true := hh
  rw [step_of_schedule hsch]
  obtain ⟨w, rfl⟩ | ⟨v, rfl⟩ | rfl := ha
  · exact exec_of_halted hrest _
  · exact arrive_of_halted hrest v
  · exact iteration_of_halted hrest

end Sys2Proof.Machine
end

section
/-! The IDLE event (41_events R112). -/

namespace Sys2Proof.Machine

open Sys2Proof

/-- Whether the block is halted or not, IDLE leaves the state as it was. -/
theorem exec_idle (s : State) : exec .idle s = .next s := ite_self _

theorem decodeWord_serviceWord_ne_idle (c : Config) (v : SampleField) : decodeWord c (serviceWord v) ≠ .idle := by
  rw [serviceWord, decodeWord_sampleWord]
  split
  · nofun
  · nofun

theorem decodeWord_pollWord (s : State) :
    decodeWord s.cfg (pollWord s) = .gate (normalise s.cfg s.gateLine) := decodeWord_gateWord _ _

/-- Settles O11: a service word decodes to SAMPLE or as reserved, and a poll word to GATE. -/
theorem idleChangesNothing : Obligations.IdleChangesNothing := by
  refine ⟨decodeWord_eq_idle_iff, exec_idle, fun s v => ⟨decodeWord_serviceWord_ne_idle s.cfg v, ?_⟩⟩
  rw [decodeWord_pollWord]
  nofun

end Sys2Proof.Machine
end

section
/-! The GATE event (41_events R115, R116): what it writes, and that it does not touch the pitch state. -/

namespace Sys2Proof.Machine

open Sys2Proof

theorem exec_gate_of_running {s : State} (hr : s.halted = false) (a : Bool) :
    exec (.gate a) s = .next (acceptGate a s) := unlessHalted_of_running hr _

/-- Everything a GATE event can do. -/
theorem exec_gate_next {a : Bool} {s t : State} (h : exec (.gate a) s = .next t) :
    (s.halted = true ∧ t = s) ∨ (s.halted = false ∧ t = acceptGate a s) := by
  obtain hhalt | ⟨hr, ⟨⟨⟩, _⟩ | ⟨_, ⟨⟩, _⟩ | ⟨_, ⟨rfl⟩, rfl⟩ | ⟨_, ⟨⟩, _⟩⟩ := exec_next h
  · exact .inl hhalt
  · exact .inr ⟨hr, rfl⟩

/-- The strobes of a step are what it appends to the trace (R43). -/
theorem strobes_of_trace {s t : State} {writes : List OscWrite} (h : t.trace = s.trace ++ writes) :
    strobes s t = writes := by
  rw [strobes, h, List.drop_left]

/-- A word of KIND 10 that is neither of the two GATE words has a bit set that R63 wants zero. -/
theorem reservedWord_of_kind_two {w : EventWord} (c : Config) (hk : kindField w = 2) (h : ∀ a, w ≠ gateWord a) :
    c.ReservedWord w := .inr (.inr (.inr ⟨hk, fun hz => h _ ((eq_gateWord_iff w).mpr ⟨hk, hz⟩)⟩))

/-- Settles O27: 0x8000 and 0x8001 are the two GATE words. -/
theorem gateWritesEnable : Obligations.GateWritesEnable := by
  refine ⟨fun c => ⟨decodeWord_gateWord c false, decodeWord_gateWord c true⟩, fun c w hk h0 h1 => ?_, fun s a hr => ?_⟩
  · refine decodeWord_of_reservedWord (reservedWord_of_kind_two c hk fun a => ?_)
    cases a with
    | false => exact h0
    | true => exact h1
  · exact ⟨acceptGate a s, exec_gate_of_running hr a, rfl, strobes_of_trace (acceptGate_trace a s)⟩

theorem step_of_gateWord {s : State} {a : Bool} {rest : List AgentStep} (hr : s.halted = false)
    (hsch : s.schedule = .inject (gateWord a) :: rest) :
    step s = .next (acceptGate a { s with schedule := rest }) := by
  rw [step_of_inject hsch, decodeWord_gateWord]
  exact exec_gate_of_running (s := { s with schedule := rest }) hr a

/-- GATE does the same whatever SMOOTHED_NOTE and PERIOD hold, and leaves them (R116). -/
theorem exec_gate_ignores_pitch {s t : State} {a : Bool} (n : NoteReg) (p : Option Reload)
    (h : exec (.gate a) s = .next t) : t.smoothedNote = s.smoothedNote ∧ t.period = s.period ∧
      exec (.gate a) { s with smoothedNote := n, period := p } = .next { t with smoothedNote := n, period := p } := by
  obtain ⟨hh, rfl⟩ | ⟨hr, rfl⟩ := exec_gate_next h
  · exact ⟨rfl, rfl, exec_of_halted (s := { t with smoothedNote := n, period := p }) hh _⟩
  · exact ⟨acceptGate_smoothedNote a s, acceptGate_period a s,
      exec_gate_of_running (s := { s with smoothedNote := n, period := p }) hr a⟩

/-- Settles O28: the mute and the unmute are two GATE events, after which ENABLE is the second's. -/
theorem pitchSurvivesMuting : Obligations.PitchSurvivesMuting := by
  refine ⟨fun s t a n p => exec_gate_ignores_pitch n p, fun s rest hr hsch => ?_⟩
  have hmute := step_of_gateWord (a := false) hr hsch
  have hunmute := step_of_gateWord (s := acceptGate false { s with schedule := .inject (gateWord true) :: rest }) hr rfl
  exact ⟨_, (run_succ_of_step (M := core) 1 hmute).trans (run_succ_of_step (M := core) 0 hunmute),
    rfl, rfl, rfl, rfl, rfl, rfl⟩

end Sys2Proof.Machine
end

section
/-! The SAMPLE event (41_events R113, R114) by the exact pitch law, and beside a GATE event (R117). -/

namespace Sys2Proof.Machine

open Sys2Proof

/-- Everything a SAMPLE event can do when it answers a next state. -/
theorem exec_sample_next {v : SampleField} {s t : State} (h : exec (.sample v) s = .next t) :
    (s.halted = true ∧ t = s) ∨ (s.halted = false ∧ s.cfg.Valid ∧ s.cfg.Fits v ∧
      t = acceptSample (mapSample s.cfg v s.smoothedNote) s) := by
  obtain hhalt | ⟨hr, ⟨⟨⟩, _⟩ | ⟨_, ⟨rfl⟩, hc, hv, rfl⟩ | ⟨_, ⟨⟩, _⟩ | ⟨_, ⟨⟩, _⟩⟩ := exec_next h
  · exact .inl hhalt
  · exact .inr ⟨hr, hc, hv, rfl⟩

/-- Settles O25: neither HALTED nor the mapper's arguments are ENABLE. -/
theorem sampleIgnoresEnable : Obligations.SampleIgnoresEnable := by
  intro s t v b h
  obtain ⟨hh, rfl⟩ | ⟨hr, hc, hv, rfl⟩ := exec_sample_next h
  · exact ⟨rfl, exec_of_halted (s := { t with enable := b }) hh _⟩
  · exact ⟨acceptSample_enable _ s, exec_sample_of_running (s := { s with enable := b }) hr hc hv⟩

/-- Settles O12: the filter and the reload procedure give the exact values at the note that is written. -/
theorem sampleWritesTheExactPitchLaw : Obligations.SampleWritesTheExactPitchLaw := by
  intro s v hr hc hv
  have hnote := (smoothNote_toNat hc hv s.smoothedNote).trans
    (smoothedOf_eq_smoothed (one_le_sampleRangeSize hc) v.toNat s.smoothedNote.toNat)
  obtain ⟨_, hreload, hhi, hlo⟩ := reloadIsTheRoundedHalfPeriod s.cfg (smoothNote s.cfg v s.smoothedNote).toNat hc
  refine ⟨(decodeWord_eq_sample_iff s.cfg _ v).mpr ⟨hv, rfl⟩, _, _, _, hnote, hreload,
    exec_sample_of_running hr hc hv, ?_, strobes_of_trace (acceptSample_trace _ s)⟩
  rw [← hhi, ← hlo]
  rfl

theorem andThen_of_next {o : Host.Outcome State Fault Refusal} {m : State} (h : o = .next m)
    (k : State → Host.Outcome State Fault Refusal) : andThen o k = k m := by
  rw [h, andThen]

/-- Settles O30: SAMPLE writes no register that GATE writes, and reads none. -/
theorem sampleAndGateCommute : Obligations.SampleAndGateCommute := by
  intro s v a hr hc hv
  refine ⟨acceptGate a (acceptSample (mapSample s.cfg v s.smoothedNote) s),
    acceptSample (mapSample s.cfg v s.smoothedNote) (acceptGate a s),
    (mapSample s.cfg v s.smoothedNote).reload, ?_, ?_, rfl, ?_, ?_⟩
  · rw [andThen_of_next (exec_sample_of_running hr hc hv)]
    exact exec_gate_of_running (s := acceptSample _ s) hr a
  · rw [andThen_of_next (exec_gate_of_running hr a)]
    exact exec_sample_of_running (s := acceptGate a s) hr hc hv
  · rw [acceptGate_trace, acceptSample_trace, List.append_assoc, List.singleton_append]
  · rw [acceptSample_trace, acceptGate_trace, List.append_assoc, List.singleton_append]

end Sys2Proof.Machine
end

section
/-! Progress: in a state that meets the invariant each part of a step answers a next state (41_events R110,
42_event_mux R131, R134). -/

namespace Sys2Proof.Machine

open Sys2Proof

/-- An event answers a next state on a term that some word decodes to, if the configuration of a running
block is valid. -/
theorem exec_progress {i : Instr} {s : State} (hc : s.halted = false → s.cfg.Valid) (hi : i.WellFormed s.cfg) :
    ∃ t, exec i s = .next t := by
  cases hh : s.halted with
  | true => exact ⟨s, exec_of_halted hh i⟩
  | false =>
    cases i with
    | idle => exact ⟨s, exec_idle s⟩
    | sample v => exact ⟨_, exec_sample_of_running hh (hc hh) ((wellFormed_sample s.cfg v).mp hi)⟩
    | gate a => exact ⟨_, exec_gate_of_running hh a⟩
    | reserved w => exact ⟨_, unlessHalted_of_running hh _⟩

/-- Under the invariant a core step has an effect for every word, since decoding is total (R66). -/
theorem coreStep_progress {s : State} (h : s.Inv) (w : EventWord) : ∃ t, coreStep w s = .next t :=
  exec_progress (valid_of_running h) (decodeYieldsWellFormed s.cfg w)

theorem arrive_progress {s : State} {v : SampleField} (hv : s.cfg.Fits v) : ∃ t, arrive v s = .next t := by
  unfold arrive
  split_ifs
  · exact ⟨_, rfl⟩
  · exact ⟨_, rfl⟩
  · exact ⟨_, rfl⟩

/-- A service finds the latched sample that SAMPLE_PENDING promises (R29), and the invariant holds before the
poll that follows. -/
theorem servicePending_progress {s : State} (h : s.Inv) (hr : s.halted = false) :
    ∃ m, servicePending s = .next m ∧ m.Inv := by
  cases hp : s.samplePending with
  | false => exact ⟨s, by simp [servicePending, hp], h⟩
  | true =>
    obtain ⟨v, hlatch, _⟩ := latch_of_pending h hp
    have hclear := inv_clearLatch h hr
    obtain ⟨m, hm⟩ := coreStep_progress hclear (serviceWord v)
    exact ⟨m, by simpa [servicePending, hp, hlatch] using hm, exec_keeps_inv hclear hm⟩

theorem iteration_progress {s : State} (h : s.Inv) : ∃ t, iteration s = .next t := by
  cases hh : s.halted with
  | true => exact ⟨s, iteration_of_halted hh⟩
  | false =>
    obtain ⟨m, hserve, hm⟩ := servicePending_progress h hh
    obtain ⟨t, hpoll⟩ := coreStep_progress hm (pollWord m)
    exact ⟨t, by rw [iteration, if_neg (by simp [hh]), andThen_of_next hserve, pollGate, hpoll]⟩

/-- Settles O50, agent by agent. -/
theorem invariantStatesDoNotStop : Obligations.InvariantStatesDoNotStop := by
  intro s h harrive
  cases hsch : s.schedule with
  | nil => exact ⟨s, by simp [step, nextAgentStep, hsch]⟩
  | cons a rest =>
    rw [step_of_schedule hsch]
    have hrest := inv_withSchedule h rest
    cases a with
    | arrive v => exact arrive_progress (s := { s with schedule := rest }) (harrive v rest hsch)
    | line l => exact ⟨_, rfl⟩
    | iterate => exact iteration_progress hrest
    | inject w => exact coreStep_progress hrest w
    | reset => exact ⟨_, rfl⟩

end Sys2Proof.Machine
end

section
/-! An arrival (42_event_mux R131 to R133), case by case. -/

namespace Sys2Proof.Machine

open Sys2Proof

/-- A second arrival raises OVERRUN and leaves the first sample in the latch (R132). -/
theorem arrive_of_pending {s : State} (hr : s.halted = false) (hp : s.samplePending = true) (v : SampleField) :
    arrive v s = .next (raiseFault .overrun s) := by
  simp [arrive, hr, hp]

/-- The armed source latches a sample that SAMPLE_DATA can carry (R131). -/
theorem arrive_of_armed {v : SampleField} {s : State} (hr : s.halted = false) (hp : s.samplePending = false)
    (hv : s.cfg.Fits v) : arrive v s = .next (latchSample v s) := by
  simp [arrive, hr, hp, hv]

/-- Settles O34: the step is the arrival, which reads nothing of the schedule. -/
theorem arrivalLatchesOrOverruns : Obligations.ArrivalLatchesOrOverruns := by
  intro s v rest hsch hv
  rw [step_of_schedule hsch]
  exact ⟨fun hh => arrive_of_halted (s := { s with schedule := rest }) hh v,
    fun hr hp => arrive_of_pending (s := { s with schedule := rest }) hr hp v,
    fun hr hp => arrive_of_armed (s := { s with schedule := rest }) hr hp hv⟩

end Sys2Proof.Machine
end

section
/-! An iteration under the invariant (42_event_mux R134, R135, R139): exactly what it answers, with nothing
pending and with a sample pending. -/

namespace Sys2Proof.Machine

open Sys2Proof

/-- R135: the line is compared with its active level. -/
theorem normalise_eq_decide (c : Config) (l : Bool) : normalise c l = decide (l = c.gateActiveLevel) :=
  beq_eq_decide l c.gateActiveLevel

theorem normalise_eq_true_iff (c : Config) (l : Bool) : normalise c l = true ↔ l = c.gateActiveLevel := beq_iff_eq

/-- A latched sample in range is served as its SAMPLE event, after the latch is emptied. -/
theorem servicePending_of_latched {s : State} {v : SampleField} (hr : s.halted = false) (hc : s.cfg.Valid)
    (hp : s.samplePending = true) (hlatch : s.sampleLatch = some v) (hv : s.cfg.Fits v) :
    servicePending s = .next (acceptSample (mapSample s.cfg v s.smoothedNote) (clearLatch s)) := by
  have hserve : servicePending s = coreStep (serviceWord v) (clearLatch s) := by simp [servicePending, hp, hlatch]
  rw [hserve, coreStep, serviceWord, clearLatch_cfg, decodeWord_sampleWord, if_pos hv]
  exact exec_sample_of_running (s := clearLatch s) hr hc hv

/-- With nothing pending an iteration is the poll alone. -/
theorem iteration_of_armed {s : State} (hr : s.halted = false) (hp : s.samplePending = false) :
    iteration s = .next (acceptGate (normalise s.cfg s.gateLine) s) := by
  have hserve : servicePending s = .next s := by simp [servicePending, hp]
  rw [iteration, if_neg (by simp [hr]), andThen_of_next hserve, pollGate_of_running hr]

/-- The poll that follows a service reads the line that the service left as it was. -/
theorem iteration_of_latched {s : State} {v : SampleField} (hr : s.halted = false) (hc : s.cfg.Valid)
    (hp : s.samplePending = true) (hlatch : s.sampleLatch = some v) (hv : s.cfg.Fits v) :
    iteration s = .next (acceptGate (normalise s.cfg s.gateLine)
      (acceptSample (mapSample s.cfg v s.smoothedNote) (clearLatch s))) := by
  rw [iteration, if_neg (by simp [hr]), andThen_of_next (servicePending_of_latched hr hc hp hlatch hv)]
  exact pollGate_of_running (s := acceptSample _ (clearLatch s)) hr

/-- Under the invariant an iteration of a running block polls, or serves the latched sample and then polls. -/
theorem iteration_of_running {s : State} (h : s.Inv) (hr : s.halted = false) :
    (s.samplePending = false ∧ s.sampleLatch = none ∧
      iteration s = .next (acceptGate (normalise s.cfg s.gateLine) s)) ∨
    (∃ v, s.sampleLatch = some v ∧ iteration s = .next (acceptGate (normalise s.cfg s.gateLine)
      (acceptSample (mapSample s.cfg v s.smoothedNote) (clearLatch s)))) := by
  cases hp : s.samplePending with
  | false =>
    have hlatch : s.sampleLatch = none := by simpa [hp] using h.latch_iff
    exact .inl ⟨rfl, hlatch, iteration_of_armed hr hp⟩
  | true =>
    obtain ⟨v, hlatch, hv⟩ := latch_of_pending h hp
    exact .inr ⟨v, hlatch, iteration_of_latched hr (valid_of_running h hr) hp hlatch hv⟩

/-- What every iteration of a running block ends with: ENABLE from the line, the block running and the
latch empty. -/
theorem iteration_ends {s : State} (h : s.Inv) (hr : s.halted = false) :
    ∃ t, iteration s = .next t ∧ t.enable = normalise s.cfg s.gateLine ∧ t.halted = false ∧
      t.samplePending = false := by
  obtain ⟨hp, _, hiter⟩ | ⟨v, _, hiter⟩ := iteration_of_running h hr
  · exact ⟨_, hiter, acceptGate_enable _ s, hr, hp⟩
  · exact ⟨_, hiter, acceptGate_enable _ _, hr, rfl⟩

/-- Settles O36: the two answers of a running block's iteration, with their writes gathered in one record. -/
theorem iterationServicesThenPolls : Obligations.IterationServicesThenPolls := by
  refine ⟨rfl, rfl, fun s h => ⟨iteration_of_halted, fun hr hp => ?_, fun v hr hp hlatch => ?_⟩⟩
  · rw [iteration_of_armed hr hp, normalise_eq_decide]
    rfl
  · rw [iteration_of_latched hr (valid_of_running h hr) hp hlatch (h.latch_fits v hlatch), normalise_eq_decide]
    dsimp only
    rw [List.append_cons]
    rfl

/-- Settles O37: taking the iteration off the schedule changes neither the line nor the configuration. -/
theorem enableFollowsTheGateLine : Obligations.EnableFollowsTheGateLine := by
  intro s rest h hr hsch
  obtain ⟨t, hiter, henable, hrt, _⟩ := iteration_ends (inv_withSchedule h rest) hr
  refine ⟨t, (step_of_schedule hsch).trans hiter, ?_, hrt⟩
  rw [henable, normalise_eq_true_iff]

end Sys2Proof.Machine
end

section
/-! The life of a latched sample (42_event_mux R140), and the words the multiplexer emits (R137). -/

namespace Sys2Proof.Machine

open Sys2Proof

/-- Of the agents only the block's iteration and a reset empty the latch; a second arrival leaves it. -/
theorem agentStep_keeps_latch {a : AgentStep} {s t : State} (hp : s.samplePending = true) (hiter : a ≠ .iterate)
    (hreset : a ≠ .reset) (h : agentStep a s = .next t) :
    t.samplePending = s.samplePending ∧ t.sampleLatch = s.sampleLatch := by
  cases a with
  | arrive v =>
    obtain ⟨_, rfl⟩ | ⟨_, _, rfl⟩ | ⟨_, harmed, _⟩ := arrive_next h
    · exact ⟨rfl, rfl⟩
    · exact ⟨raiseFault_samplePending _ s, raiseFault_sampleLatch _ s⟩
    · simp [hp] at harmed
  | line l => cases h; exact ⟨rfl, rfl⟩
  | iterate => exact absurd rfl hiter
  | inject w =>
    obtain ⟨_, _, _, hpending, hlatch, _⟩ := eventsWriteOnlyTheirRegisters _ s t h
    exact ⟨hpending, hlatch⟩
  | reset => exact absurd rfl hreset

/-- Settles O38: the other agents keep the latch, and the iteration's trace is that of its two events. -/
theorem pendingSampleIsServedOnce : Obligations.PendingSampleIsServedOnce := by
  refine ⟨fun s t v h hlatch hstep hiter hreset => ?_, fun s rest h hr hsch => ?_⟩
  · have hp : s.samplePending = true := by simp [← h.latch_iff, hlatch]
    obtain ⟨_, rfl⟩ | ⟨a, rest, hsch, ha⟩ := step_next hstep
    · exact ⟨hp, hlatch⟩
    · obtain ⟨hpt, hlt⟩ := agentStep_keeps_latch (s := { s with schedule := rest }) hp
        (fun hi => hiter rest (hi ▸ hsch)) (fun hi => hreset rest (hi ▸ hsch)) ha
      exact ⟨hpt.trans hp, hlt.trans hlatch⟩
  · rw [step_of_schedule hsch]
    obtain ⟨hp, hnone, hstep⟩ | ⟨v, hlatch, hstep⟩ := iteration_of_running (inv_withSchedule h rest) hr
    · exact ⟨_, _, hstep, hp, hnone, fun v hv => by simp [hv] at hnone, fun _ => rfl⟩
    · refine ⟨_, normalise s.cfg s.gateLine, hstep, rfl, rfl, fun u hu => ?_, fun hn => by simp [hn] at hlatch⟩
      obtain rfl : u = v := Option.some.inj (hu.symm.trans hlatch)
      simp

/-- A word that decodes as reserved does so by its own name (R66). -/
theorem eq_of_decodeWord_reserved {c : Config} {w u : EventWord} (h : decodeWord c w = .reserved u) : u = w :=
  (((decodeWord_eq_iff c w (.reserved u)).mp h).2).symm

/-- The words an iteration issues are never reserved, so it leaves RSVD_EVT (R137). -/
theorem iteration_keeps_rsvdEvt {s t : State} (hi : s.Inv) (h : iteration s = .next t) : t.rsvdEvt = s.rsvdEvt := by
  obtain ⟨_, rfl⟩ | ⟨_, _, rfl⟩ | ⟨v, _, _, _, _, _, rfl⟩ | ⟨v, _, _, hlatch, hv, _⟩ := iteration_cases h
  · rfl
  · rfl
  · rfl
  · exact absurd (hi.latch_fits v hlatch) hv

/-- RSVD_EVT arises only from an injected word that decodes as reserved. -/
theorem agentStep_sets_rsvdEvt {a : AgentStep} {s t : State} (hi : s.Inv) (h : agentStep a s = .next t)
    (h0 : s.rsvdEvt = false) (h1 : t.rsvdEvt = true) : ∃ w, a = .inject w ∧ decodeWord s.cfg w = .reserved w := by
  cases a with
  | arrive v =>
    rw [arrive_frame h] at h1
    simp [h0] at h1
  | line l =>
    cases h
    simp [h0] at h1
  | iterate => simp [iteration_keeps_rsvdEvt hi h, h0] at h1
  | inject w =>
    obtain ⟨_, _, _, _, _, _, _, _, _, hkeep, _⟩ := eventsWriteOnlyTheirRegisters _ s t h
    refine ⟨w, rfl, ?_⟩
    by_contra hw
    have hsame : t.rsvdEvt = s.rsvdEvt := hkeep fun u hu => hw (eq_of_decodeWord_reserved hu ▸ hu)
    simp [hsame, h0] at h1
  | reset =>
    cases h
    simp [resetBlock_eq] at h1

/-- Settles O39: the latched sample is in range, so its word is a SAMPLE word; a poll's word is a GATE word. -/
theorem multiplexerEmitsOnlyValidWords : Obligations.MultiplexerEmitsOnlyValidWords := by
  refine fun s h => ⟨fun v hlatch => ?_, ⟨_, decodeWord_pollWord s⟩, fun t hstep h0 h1 => ?_⟩
  · have hv := h.latch_fits v hlatch
    exact ⟨(decodeWord_eq_sample_iff s.cfg _ v).mpr ⟨hv, rfl⟩, hv⟩
  · obtain ⟨_, rfl⟩ | ⟨a, rest, hsch, ha⟩ := step_next hstep
    · simp [h0] at h1
    · obtain ⟨w, rfl, hw⟩ := agentStep_sets_rsvdEvt (inv_withSchedule h rest) ha h0 h1
      exact ⟨w, rest, hsch, hw⟩

end Sys2Proof.Machine
end

section
/-! The gate line (42_event_mux R136): who sets it, and that no event, arrival or reset reads it. -/

namespace Sys2Proof.Machine

open Sys2Proof

/-- No event reads the gate line: HALTED and the mapper's arguments are other registers. -/
theorem exec_ignores_gateLine {i : Instr} {s t : State} (l : Bool) (h : exec i s = .next t) :
    exec i { s with gateLine := l } = .next { t with gateLine := l } := by
  obtain ⟨hh, rfl⟩ | ⟨hr, ⟨rfl, rfl⟩ | ⟨v, rfl, hc, hv, rfl⟩ | ⟨a, rfl, rfl⟩ | ⟨w, rfl, rfl⟩⟩ := exec_next h
  · exact exec_of_halted (s := { t with gateLine := l }) hh i
  · exact exec_idle _
  · exact exec_sample_of_running (s := { s with gateLine := l }) hr hc hv
  · exact exec_gate_of_running (s := { s with gateLine := l }) hr a
  · exact unlessHalted_of_running (s := { s with gateLine := l }) hr _

theorem arrive_ignores_gateLine {v : SampleField} {s t : State} (l : Bool) (h : arrive v s = .next t) :
    arrive v { s with gateLine := l } = .next { t with gateLine := l } := by
  obtain ⟨hh, rfl⟩ | ⟨hr, hp, rfl⟩ | ⟨hr, hp, hv, rfl⟩ := arrive_next h
  · exact arrive_of_halted (s := { t with gateLine := l }) hh v
  · exact arrive_of_pending (s := { s with gateLine := l }) hr hp v
  · exact arrive_of_armed (s := { s with gateLine := l }) hr hp hv

theorem agentStep_ignores_gateLine {a : AgentStep} {s t : State} (l : Bool) (hiter : a ≠ .iterate)
    (hline : ∀ level, a ≠ .line level) (h : agentStep a s = .next t) :
    agentStep a { s with gateLine := l } = .next { t with gateLine := l } := by
  cases a with
  | arrive v => exact arrive_ignores_gateLine l h
  | line level => exact absurd rfl (hline level)
  | iterate => exact absurd rfl hiter
  | inject w => exact exec_ignores_gateLine l h
  | reset => cases h; rfl

/-- Settles O40: that another agent leaves the line is the frame of its step. -/
theorem onlyIterationsReadTheGateLine : Obligations.OnlyIterationsReadTheGateLine := by
  refine ⟨fun s l rest hsch => step_of_schedule hsch, fun s t a h hchanged => ?_,
    fun s t l a => agentStep_ignores_gateLine l, fun s t l i => exec_ignores_gateLine l⟩
  obtain ⟨_, _, hkeep, _⟩ := agentStepsWriteOnlyTheirState a s t h
  by_contra hline
  exact hchanged (hkeep fun l hl => hline ⟨l, hl⟩)

end Sys2Proof.Machine
end

section
/-! A running block in dutiful surroundings (42_event_mux R141, 60_exceptions R156): each agent step that the
duties allow keeps it running and the duties kept, and so does every run. -/

namespace Sys2Proof.Machine

open Sys2Proof

theorem dutiesKept_arrive_iff (c : Config) (pending : Bool) (v : SampleField) (rest : List AgentStep) :
    dutiesKept c pending (.arrive v :: rest) = true ↔
      pending = false ∧ c.Fits v ∧ dutiesKept c true rest = true := by
  simp [dutiesKept, and_assoc]

/-- A reset under a valid configuration leaves the block running (R172). -/
theorem resetUnder_running {c : Config} (hc : c.Valid) (l : Bool) (sch : List AgentStep) :
    (State.resetUnder c l sch).halted = false := by
  have hvalid : c.valid = true := hc
  simp [State.halted, hvalid]

/-- An agent step within the duties takes place, halts nothing, and leaves SAMPLE_PENDING as the duties of
the steps after it reckon it. -/
theorem agentStep_keeps_duties {a : AgentStep} {rest : List AgentStep} {s : State} (h : s.Inv)
    (hr : s.halted = false) (hd : dutiesKept s.cfg s.samplePending (a :: rest) = true) :
    ∃ t, agentStep a s = .next t ∧ t.halted = false ∧ dutiesKept s.cfg t.samplePending rest = true := by
  cases a with
  | arrive v =>
    obtain ⟨hp, hv, hrest⟩ := (dutiesKept_arrive_iff _ _ v rest).mp hd
    exact ⟨_, arrive_of_armed hr hp hv, hr, hrest⟩
  | line l => exact ⟨_, rfl, hr, hd⟩
  | iterate =>
    obtain ⟨t, hiter, _, hrt, hpt⟩ := iteration_ends h hr
    exact ⟨t, hiter, hrt, hpt ▸ hd⟩
  | inject w => cases hd
  | reset => exact ⟨_, rfl, resetUnder_running (valid_of_running h hr) _ _, hd⟩

/-- While no agent takes a step the block is idle (R166). -/
theorem step_of_empty_schedule {s : State} (h : s.schedule = []) : step s = .next s := by
  simp [step, nextAgentStep, h]

/-- Settles O55: the duties of the whole schedule are those of its oldest agent step, and no agent's step
writes the configuration or the schedule they speak of. -/
theorem stepKeepsDutifulSafety : Obligations.StepKeepsDutifulSafety := by
  intro s h hr hd
  cases hsch : s.schedule with
  | nil => exact ⟨s, step_of_empty_schedule hsch, h, hr, hd⟩
  | cons a rest =>
    rw [hsch] at hd
    obtain ⟨t, ha, hrt, hdt⟩ := agentStep_keeps_duties (inv_withSchedule h rest) hr hd
    obtain ⟨hcfg, hrest, _⟩ := agentStepsWriteOnlyTheirState a _ t ha
    have hstep : step s = .next t := (step_of_schedule hsch).trans ha
    refine ⟨t, hstep, stepKeepsTheInvariant s t h hstep, hrt, ?_⟩
    rw [hcfg, hrest]
    exact hdt

/-- Settles O51, by induction on the number of steps: each leaves a state to which O55 applies again. -/
theorem dutifulRunsNeverFault : Obligations.DutifulRunsNeverFault := by
  intro s h hr hd k
  induction k generalizing s with
  | zero => exact ⟨s, rfl, hr⟩
  | succ k ih =>
    obtain ⟨m, hstep, hm, hrm, hdm⟩ := stepKeepsDutifulSafety s h hr hd
    obtain ⟨t, hrun, hrt⟩ := ih m hm hrm hdm
    exact ⟨t, (run_succ_of_step (M := core) k hstep).trans hrun, hrt⟩

end Sys2Proof.Machine
end

section
/-! What halts a running block (60_exceptions R154, R156, R157): a second arrival or a reserved word on the test
port, each by its one fault bit. -/

namespace Sys2Proof.Machine

open Sys2Proof

/-- An event halts a running block only by being reserved, and then by RSVD_EVT alone (R154). -/
theorem exec_halts {i : Instr} {s t : State} (hr : s.halted = false) (h : exec i s = .next t) (ht : t.halted = true) :
    ∃ w, i = .reserved w ∧ t = raiseFault .rsvdEvt s := by
  obtain ⟨_, rfl⟩ | ⟨_, ⟨_, rfl⟩ | ⟨v, _, _, _, rfl⟩ | ⟨a, _, rfl⟩ | hreserved⟩ := exec_next h
  · simp [hr] at ht
  · simp [hr] at ht
  · simp [hr] at ht
  · simp [hr] at ht
  · exact hreserved

/-- An arrival halts a running block only while a sample is pending, and then by OVERRUN alone (R132). -/
theorem arrive_halts {v : SampleField} {s t : State} (hr : s.halted = false) (h : arrive v s = .next t)
    (ht : t.halted = true) : s.samplePending = true ∧ t = raiseFault .overrun s := by
  obtain ⟨_, rfl⟩ | ⟨_, hoverrun⟩ | ⟨_, _, _, rfl⟩ := arrive_next h
  · simp [hr] at ht
  · exact hoverrun
  · simp [hr] at ht

/-- Of the agents only the sample source and the test port can halt a running block that meets the invariant. -/
theorem agentStep_halts {a : AgentStep} {s t : State} (hi : s.Inv) (hr : s.halted = false)
    (h : agentStep a s = .next t) (ht : t.halted = true) :
    (∃ v, a = .arrive v ∧ s.samplePending = true ∧ t = raiseFault .overrun s) ∨
    (∃ w, a = .inject w ∧ decodeWord s.cfg w = .reserved w ∧ t = raiseFault .rsvdEvt s) := by
  cases a with
  | arrive v => exact .inl ⟨v, rfl, arrive_halts hr h ht⟩
  | line l =>
    cases h
    simp [hr] at ht
  | iterate =>
    obtain ⟨u, hu, _, hru, _⟩ := iteration_ends hi hr
    cases hu.symm.trans h
    simp [hru] at ht
  | inject w =>
    obtain ⟨u, hw, rfl⟩ := exec_halts hr h ht
    exact .inr ⟨w, rfl, eq_of_decodeWord_reserved hw ▸ hw, rfl⟩
  | reset =>
    cases h
    simp [resetBlock_eq, resetUnder_running (valid_of_running hi hr)] at ht

/-- Settles O45: the step into the halted state is one agent's, on the state without it in its schedule. -/
theorem faultsArePreciseAndSingle : Obligations.FaultsArePreciseAndSingle := by
  intro s t hi hr h ht
  obtain ⟨_, rfl⟩ | ⟨a, rest, hsch, ha⟩ := step_next h
  · simp [hr] at ht
  · obtain ⟨v, rfl, hp, rfl⟩ | ⟨w, rfl, hw, rfl⟩ := agentStep_halts (inv_withSchedule hi rest) hr ha ht
    · exact .inl ⟨v, rest, hsch, hp, rfl⟩
    · exact .inr ⟨w, rest, hsch, hw, rfl⟩

/-- Settles O29: an event of a running block has its effect, and a raised fault halts. -/
theorem reservedWordHasNoOtherEffect : Obligations.ReservedWordHasNoOtherEffect := fun s _ hr =>
  ⟨unlessHalted_of_running hr _, raiseFault_halted .rsvdEvt s⟩

end Sys2Proof.Machine
end

section
/-! A block that its configuration check refuses (60_exceptions R152): no run of it starts. -/

namespace Sys2Proof.Machine

open Sys2Proof

/-- SAMPLE_MAX = 2^SAMPLE_BITS − 1 over the integers (R7): the natural subtraction does not cut it off. -/
theorem sampleMax_cast (c : Config) : (c.sampleMax : ℤ) = 2 ^ c.sampleBits.toNat - 1 := by
  simp [Config.sampleMax, Config.sampleCount, Nat.cast_sub Nat.one_le_two_pow]

/-- A halted block takes every step, an arrival of any width included (R111, R133). -/
theorem step_progress_of_halted {s : State} (hh : s.halted = true) : ∃ t, step s = .next t := by
  cases hsch : s.schedule with
  | nil => exact ⟨s, step_of_empty_schedule hsch⟩
  | cons a rest =>
    have hrest : ({ s with schedule := rest } : State).halted = true := hh
    rw [step_of_schedule hsch]
    cases a with
    | arrive v => exact ⟨_, arrive_of_halted hrest v⟩
    | line l => exact ⟨_, rfl⟩
    | iterate => exact ⟨_, iteration_of_halted hrest⟩
    | inject w => exact ⟨_, exec_of_halted hrest _⟩
    | reset => exact ⟨_, rfl⟩

/-- Under the invariant an invalid configuration halts the block (R152). -/
theorem halted_of_not_valid {s : State} (hi : s.Inv) (hc : ¬ s.cfg.Valid) : s.halted = true :=
  (halted_iff_faultBit s).mpr ⟨.cfgErr, hi.cfgErr_iff.mpr hc⟩

/-- Every run under an invalid configuration goes on, in states that meet the invariant: each step keeps the
invariant and the configuration, so the block is still halted for the next. -/
theorem run_of_not_valid (k : Nat) {s : State} (hi : s.Inv) (hc : ¬ s.cfg.Valid) :
    ∃ t, core.run k s = .next t ∧ t.Inv ∧ ¬ t.cfg.Valid := by
  induction k generalizing s with
  | zero => exact ⟨s, rfl, hi, hc⟩
  | succ k ih =>
    obtain ⟨m, hstep⟩ := step_progress_of_halted (halted_of_not_valid hi hc)
    have hm : m.Inv := stepKeepsTheInvariant s m hi hstep
    have hcm : ¬ m.cfg.Valid := by rwa [configurationIsConstant s m hstep]
    obtain ⟨t, hrun, ht⟩ := ih hm hcm
    exact ⟨t, (run_succ_of_step (M := core) k hstep).trans hrun, ht⟩

/-- Settles O46: a reset state meets the invariant, which says what a block with CFG_ERR = 1 has done. -/
theorem invalidConfigurationNeverStarts : Obligations.InvalidConfigurationNeverStarts := by
  refine fun c => ⟨?_, fun hc l sch k => ?_⟩
  · rw [valid_iff, sampleMax_cast]
  · obtain ⟨t, hrun, hi, hct⟩ := run_of_not_valid k (resetMeetsTheInvariant c l sch) hc
    have herr : t.cfgErr = true := hi.cfgErr_iff.mpr hct
    obtain ⟨henable, _, _, htrace⟩ := hi.refused_start herr
    exact ⟨t, hrun, herr, halted_of_not_valid hi hct, henable, htrace⟩

end Sys2Proof.Machine
end

section
/-! The idle block (60_exceptions R166), and what its ports ask of the oscillator (R162, 70_reset_and_hazards
R175). -/

namespace Sys2Proof.Machine

open Sys2Proof

/-- Settles O9: with an empty schedule the step is that of the idle block. -/
theorem emptyScheduleIsIdle : Obligations.EmptyScheduleIsIdle := fun _ => step_of_empty_schedule

theorem drive_of_disabled {s : State} (he : s.enable = false) : s.drive = .hold Config.idleLevel := by
  simp [State.drive, he]

/-- Without a period the read of PERIOD is a fault, and nothing is asked (R175). -/
theorem drive_of_not_valid {s : State} (he : s.enable = true) (hv : s.periodValid = false) : s.drive = .unstated := by
  simp [State.drive, he, readPeriod_of_not_valid hv]

theorem drive_of_valid {s : State} {r : Reload} (he : s.enable = true) (hv : s.periodValid = true)
    (hp : s.period = some r) : s.drive = .toggle (Config.timerToggleTicks r) := by
  simp [State.drive, he, readPeriod_of_valid hv hp]

/-- Settles O52: by the invariant PERIOD_VALID = 1 while PERIOD holds a value. -/
theorem portsDriveTheOscillator : Obligations.PortsDriveTheOscillator := by
  refine fun s hi => ⟨drive_of_disabled, drive_of_not_valid, fun r he hp => drive_of_valid he ?_ hp⟩
  rw [← hi.period_iff, hp, Option.isSome_some]

end Sys2Proof.Machine
end

section
/-! What clears a fault bit (60_exceptions R160, 70_reset_and_hazards R172): a set bit halts the block, and in a
halted block no agent but reset writes a fault bit. -/

namespace Sys2Proof.Machine

open Sys2Proof

/-- The agent steps to come are no fault bit. -/
theorem withSchedule_faultBit (sch : List AgentStep) (s : State) (f : StickyFault) :
    ({ s with schedule := sch } : State).faultBit f = s.faultBit f := by cases f <;> rfl

theorem halted_of_faultBit {s : State} {f : StickyFault} (hf : s.faultBit f = true) : s.halted = true :=
  (halted_iff_faultBit s).mpr ⟨f, hf⟩

/-- A halted block keeps its fault bits through every agent step but a reset: it ignores arrivals, iterations
and injections, and the gate line is no fault bit. -/
theorem agentStep_keeps_faultBit_of_halted {a : AgentStep} {s t : State} (hh : s.halted = true) (ha : a ≠ .reset)
    (h : agentStep a s = .next t) (f : StickyFault) : t.faultBit f = s.faultBit f := by
  cases a with
  | arrive v => cases (arrive_of_halted hh v).symm.trans h; rfl
  | line l => cases h; exact writeLine_faultBit l s f
  | iterate => cases (iteration_of_halted hh).symm.trans h; rfl
  | inject w => cases (exec_of_halted hh _).symm.trans h; rfl
  | reset => exact absurd rfl ha

/-- Settles O44: the set bit halts the block, so the step that clears it is a reset; and a valid reset leaves the
block running. -/
theorem onlyResetClearsFaults : Obligations.OnlyResetClearsFaults := by
  refine ⟨fun s t f h hset hclear => ?_, fun s rest hc hsch => ?_⟩
  · obtain ⟨_, rfl⟩ | ⟨a, rest, hsch, ha⟩ := step_next h
    · simp [hset] at hclear
    · by_cases hreset : a = .reset
      · exact ⟨rest, hreset ▸ hsch⟩
      · have hset' : ({ s with schedule := rest } : State).faultBit f = true := (withSchedule_faultBit rest s f).trans hset
        have hkeep := agentStep_keeps_faultBit_of_halted (halted_of_faultBit hset') hreset ha f
        simp [hkeep, hset'] at hclear
  · exact ⟨_, step_of_schedule hsch, faultBit_of_running (resetUnder_running hc s.gateLine rest)⟩

end Sys2Proof.Machine
end
